-- ==== Sys2Proof/Word.lean ====
section
/-! DEFINITION. The word types: a 16-bit operation word (30_encoding.md R55) and an 8-bit value (a pin sample, a byte of a stored stream). -/

namespace Sys2Proof

/-- An operation word (30_encoding.md R55): always 16 bits, bit 0 the least significant (00_scope.md R9). -/
abbrev Word := BitVec 16

/-- An 8-bit value: a pin sample (10_state.md R27), or one byte of a stream of operation words (20_memory.md R41). -/
abbrev Byte := BitVec 8

end Sys2Proof
end

