-- ==== Sys2Proof/Syntax.lean ====
section
/-! DEFINITION. The operations of PWRSEQ as syntax: one constructor for each row of spec/opcode_table.json. -/

namespace Sys2Proof

/-- The operations of 30_encoding.md R56, one constructor per row of the opcode table: TRANS has a row for each of its five
state codes (R59). The operands are the fields of R61. -/
inductive Instr
  /-- TICK, one Tick Dispatcher iteration. -/
  | tick
  /-- EDGE PINS, one Edge Detector invocation on an 8-bit sample. -/
  | edge (pins : Byte)
  /-- TRANS Unknown. -/
  | transUnknown
  /-- TRANS Booting. -/
  | transBooting
  /-- TRANS Idle. -/
  | transIdle
  /-- TRANS ShuttingDown. -/
  | transShuttingDown
  /-- TRANS PoweredOff. -/
  | transPoweredOff
  /-- ADV DUR, `advance(duration_ms)`, legal for DUR at most 999 (R60, R65). -/
  | adv (dur : BitVec 10)
  /-- INIT, the initialisation. -/
  | init
deriving DecidableEq, Repr

end Sys2Proof
end

