-- ==== Sys2Proof/WellFormed.lean ====
section
/-! DEFINITION. Well-formed operations: the one check a constructor's type does not make is the range of ADV's duration. -/

namespace Sys2Proof

/-- An operation that has a legal word: ADV needs DUR at most 999 (30_encoding.md R60, R65). -/
def Instr.wf : Instr → Bool
  | .adv dur => decide (dur.toNat ≤ 999)
  | .tick | .edge _ | .transUnknown | .transBooting | .transIdle | .transShuttingDown | .transPoweredOff | .init => true

end Sys2Proof
end

