-- ==== Sys2Proof/Decode.lean ====
section
/-! DEFINITION. The decoder of 30_encoding.md R66, total on 16-bit words, then the encoder written from the formats R57 to
R60, the opcode table as rows, and the byte form of a stream of words (20_memory.md R41, R42). -/

namespace Sys2Proof

/-- Why a word is illegal; each is refused with reason ILLEGAL_WORD (60_exceptions.md R152). -/
inductive Illegal
  /-- A reserved opcode, 000, 101 or 110 (30_encoding.md R63). -/
  | reservedOpcode
  /-- A bit of [12:0] that the format does not name is set (30_encoding.md R62). -/
  | reservedBits
  /-- TRANS with ST = 5, 6 or 7 (30_encoding.md R64). -/
  | noSuchState
  /-- ADV with DUR from 1000 to 1023 (30_encoding.md R65). -/
  | durationTooLong
deriving DecidableEq, Repr

/-- The decoder's verdict on a word: an operation, or ILLEGAL_WORD with its ground (30_encoding.md R66). -/
inductive Decoded
  | instr (i : Instr)
  | illegal (why : Illegal)
deriving DecidableEq, Repr

/-- OP, bits [15:13] (30_encoding.md R55). -/
def opField (w : Word) : BitVec 3 := w.extractLsb' 13 3

/-- Format T, for TICK and INIT: bits [12:0] are reserved (30_encoding.md R57). -/
def decodeT (i : Instr) (w : Word) : Decoded :=
  if w.extractLsb' 0 13 = 0#13 then .instr i else .illegal .reservedBits

/-- Format E: PINS is [7:0], bits [12:8] are reserved (30_encoding.md R58). -/
def decodeE (w : Word) : Decoded :=
  if w.extractLsb' 8 5 = 0#5 then .instr (.edge (w.extractLsb' 0 8)) else .illegal .reservedBits

/-- Format S: ST is [2:0], bits [12:3] are reserved, the codes are those of 10_state.md R21 (30_encoding.md R59, R64). -/
def decodeS (w : Word) : Decoded :=
  if w.extractLsb' 3 10 = 0#10 then
    match (w.extractLsb' 0 3).toNat with
    | 0 => .instr .transUnknown
    | 1 => .instr .transBooting
    | 2 => .instr .transIdle
    | 3 => .instr .transShuttingDown
    | 4 => .instr .transPoweredOff
    | _ => .illegal .noSuchState
  else .illegal .reservedBits

/-- Format A: DUR is [9:0], bits [12:10] are reserved, DUR is at most 999 (30_encoding.md R60, R65). -/
def decodeA (w : Word) : Decoded :=
  if w.extractLsb' 10 3 = 0#3 then
    if (w.extractLsb' 0 10).toNat ≤ 999 then .instr (.adv (w.extractLsb' 0 10)) else .illegal .durationTooLong
  else .illegal .reservedBits

/-- The decoder (30_encoding.md R66). It reads the word alone: no state changes it (R67). -/
def decode (w : Word) : Decoded :=
  match (opField w).toNat with
  | 1 => decodeT .tick w
  | 2 => decodeE w
  | 3 => decodeS w
  | 4 => decodeA w
  | 7 => decodeT .init w
  | _ => .illegal .reservedOpcode

/-- The word of an operation, by its format (30_encoding.md R57 to R60). -/
def encode : Instr → Word
  | .tick => 0b001#3 ++ 0#13
  | .edge pins => 0b010#3 ++ 0#5 ++ pins
  | .transUnknown => 0b011#3 ++ 0#10 ++ 0#3
  | .transBooting => 0b011#3 ++ 0#10 ++ 1#3
  | .transIdle => 0b011#3 ++ 0#10 ++ 2#3
  | .transShuttingDown => 0b011#3 ++ 0#10 ++ 3#3
  | .transPoweredOff => 0b011#3 ++ 0#10 ++ 4#3
  | .adv dur => 0b100#3 ++ 0#3 ++ dur
  | .init => 0b111#3 ++ 0#13

/-- The operation the decoder reads from the word `w` of an opcode-table row of `nbits` bits; bits above `nbits` are 0. A word
is presented as one 16-bit value (20_memory.md R41), so a value that needs more than 16 bits is no operation word, and one of
fewer than 16 bits is zero-extended: DESIGN CHOICE (assumption log 24). -/
def decodeTableWord (nbits w : Nat) : Option Instr :=
  if w % 2 ^ nbits < 2 ^ 16 then
    match decode (BitVec.ofNat 16 (w % 2 ^ nbits)) with
    | .instr i => some i
    | .illegal _ => none
  else none

/-- One row of spec/opcode_table.json: its match and mask. -/
structure Row where
  matchBits : Word
  mask : Word
deriving DecidableEq, Repr

/-- The row of spec/opcode_table.json an operation belongs to. -/
def rowOf : Instr → Row
  | .tick => ⟨0x2000#16, 0xFFFF#16⟩
  | .edge _ => ⟨0x4000#16, 0xFF00#16⟩
  | .transUnknown => ⟨0x6000#16, 0xFFFF#16⟩
  | .transBooting => ⟨0x6001#16, 0xFFFF#16⟩
  | .transIdle => ⟨0x6002#16, 0xFFFF#16⟩
  | .transShuttingDown => ⟨0x6003#16, 0xFFFF#16⟩
  | .transPoweredOff => ⟨0x6004#16, 0xFFFF#16⟩
  | .adv _ => ⟨0x8000#16, 0xFC00#16⟩
  | .init => ⟨0xE000#16, 0xFFFF#16⟩

/-- A word lies in a row when its masked bits are the row's match. -/
def Row.holds (r : Row) (w : Word) : Bool := w &&& r.mask == r.matchBits

/-- A word as two stored bytes: bits [7:0] first, then bits [15:8] (20_memory.md R41). -/
def bytesOfWord (w : Word) : List Byte := [w.extractLsb' 0 8, w.extractLsb' 8 8]

/-- A stream of words as stored bytes (20_memory.md R41). -/
def bytesOfWords (ws : List Word) : List Byte := ws.flatMap bytesOfWord

/-- The words of a stored byte stream, little-endian; none for a stream of odd length (20_memory.md R41, R42). -/
def wordsOfBytes : List Byte → Option (List Word)
  | [] => some []
  | [_] => none
  | lo :: hi :: rest => (wordsOfBytes rest).map ((hi ++ lo) :: ·)

end Sys2Proof
end

