-- ==== Sys2Proof/Config.lean ====
section
/-! DEFINITION. The implementation parameters of 00_scope.md R7. They are fixed for one machine: State carries them as
one field that no step writes, because the form of `exec` is the host's (assumption log 1). Every claim about a state holds
for every value of them, or names `Params.Legal` as a premise. -/

namespace Sys2Proof

/-- The parameters of 00_scope.md R7, but the ones R7 fixes (SUBSEC_W = 10, PORT_W = 8, BTN_BIT = 0, RDY_BIT = 1). -/
structure Params where
  /-- BOOT_TIMEOUT, seconds in `Booting` before the tick moves to `Idle`. -/
  bootTimeout : Nat
  /-- SHUTDOWN_TIMEOUT, seconds in `ShuttingDown` before the tick moves to `PoweredOff`. -/
  shutdownTimeout : Nat
  /-- BOOT_TICK_MS, the duration a `Booting` tick passes to `Advance`. -/
  bootTickMs : Nat
  /-- SHUTDOWN_TICK_MS, the duration a `ShuttingDown` tick passes to `Advance`. -/
  shutdownTickMs : Nat
  /-- ERR_SHORT_MS, the first delay of the `Unknown` error blink. -/
  errShortMs : Nat
  /-- ERR_LONG_MS, the second delay of the `Unknown` error blink. -/
  errLongMs : Nat
  /-- SEC_W, the width of SEC in bits. -/
  secW : Nat
  /-- SNAPSHOT_RESET, the value of SNAP after INIT: OPEN (decision D9). -/
  snapshotReset : Byte
  /-- SLEEP_RACE, whether a TICK into sleep may be split by an EDGE: OPEN (decision D16). -/
  sleepRace : Bool
  /-- ENTRY_RACE, whether a TICK's timeout transition may be split by an EDGE: OPEN (decision D34). -/
  entryRace : Bool
deriving DecidableEq, Repr

/-- The legal ranges of 00_scope.md R7 (decision D32). -/
abbrev Params.Legal (p : Params) : Prop :=
  8 ≤ p.secW ∧ p.bootTimeout + 2 ≤ 2 ^ p.secW ∧ p.shutdownTimeout + 1 ≤ 2 ^ p.secW ∧
  (1 ≤ p.bootTickMs ∧ p.bootTickMs ≤ 999) ∧ (1 ≤ p.shutdownTickMs ∧ p.shutdownTickMs ≤ 999) ∧
  p.errShortMs ≤ 999 ∧ p.errLongMs ≤ 999

/-- The default column of 00_scope.md R7. The three OPEN parameters have no default there: SLEEP_RACE and ENTRY_RACE stand
at the reference value false (assumption log 3) and SNAPSHOT_RESET at 0x00, DESIGN CHOICE, unsafe (assumption log 2). -/
def Params.reference : Params where
  bootTimeout := 40
  shutdownTimeout := 40
  bootTickMs := 200
  shutdownTickMs := 500
  errShortMs := 10
  errLongMs := 20
  secW := 8
  snapshotReset := 0x00#8
  sleepRace := false
  entryRace := false

end Sys2Proof
end

