-- ==== Sys2Proof/Machine/State.lean ====
section
/-! DEFINITION. The architectural state of PWRSEQ (10_state.md), as plain data, the reasons a step can stop, and the state
after reset. -/

namespace Sys2Proof.Machine

/-- The supervisor state, "one of `{Unknown, Booting, Idle, ShuttingDown, PoweredOff}`" (10_state.md R21). The codes 5, 6
and 7 name no state and are never held (R22). -/
inductive SupervisorState
  | unknown
  | booting
  | idle
  | shuttingDown
  | poweredOff
deriving DecidableEq, Repr

/-- The three output lines (10_state.md R28). -/
inductive Line
  | pwr
  | shdn
  | led
deriving DecidableEq, Repr

/-- One write of an entry action: a line and the level it is given (40_state_machine_controller.md section 3). -/
structure LineWrite where
  line : Line
  level : Bool
deriving DecidableEq, Repr

/-- The values of ENTRY_PENDING other than none: the target state of a split timeout transition and the index of its next
entry-action write, (`Idle`, 0) or (`PoweredOff`, 0 to 2) (10_state.md R20, R32). -/
inductive EntryPos
  | idle
  | poweredOff (k : Fin 3)
deriving DecidableEq, Repr

/-- A turn of an agent (00_scope.md R5). -/
inductive Event
  /-- An agent presents an operation word. -/
  | op (w : Word)
  /-- The main line takes its turn: its one next step, SLEEP_ENTER, ENTRY_STEP or TICK (42_tick_dispatcher.md R116, R118). -/
  | mainLine
deriving DecidableEq, Repr

/-- The state of PWRSEQ: the elements of 10_state.md R20, and after them the model's own two fields. -/
structure State where
  /-- STATE (10_state.md R21). -/
  state : SupervisorState
  /-- SUBSEC, milliseconds, 10 bits, 0 to 999 (10_state.md R24). -/
  subsec : BitVec 10
  /-- SEC, seconds, SEC_W bits, 0 to 2^SEC_W - 1 (10_state.md R25; assumption log 7 on its type). -/
  sec : Nat
  /-- SNAP, the last pin sample (10_state.md R27). -/
  snap : Byte
  /-- OUT_PWR, host power-enable (10_state.md R28). -/
  outPwr : Bool
  /-- OUT_SHDN, host shutdown-request (10_state.md R28). -/
  outShdn : Bool
  /-- OUT_LED, status LED, true when lit (10_state.md R28). -/
  outLed : Bool
  /-- ASLEEP (10_state.md R30). -/
  asleep : Bool
  /-- INITED (10_state.md R31). -/
  inited : Bool
  /-- SLEEP_PENDING (10_state.md R32). -/
  sleepPending : Bool
  /-- ENTRY_PENDING (10_state.md R32). -/
  entryPending : Option EntryPos
  /-- The model's own: the parameters of 00_scope.md R7, which no step writes (assumption log 1). -/
  cfg : Params
  /-- The model's own: the turns the agents take next, the first one first (20_memory.md R47; assumption log 5). -/
  agenda : List Event
deriving DecidableEq, Repr

/-- PWRSEQ has no fault: "There is no recoverable-error taxonomy" and no trap mechanism (60_exceptions.md R150). The one
defensive condition, STATE = `Unknown` after INIT, stops nothing (R151) and is flagged by a predicate (Safety.lean). So the
type has no constructor, nobody raises a fault, and that is safe: no run is cut short. -/
inductive Fault
deriving DecidableEq, Repr

/-- Why an operation is refused (60_exceptions.md R152). A refused operation writes nothing. -/
inductive Refusal
  /-- Raised by nobody once every operation has its meaning: an arm of `exec` not written yet. Safe: the run stops. -/
  | notModelled (mnemonic : String)
  /-- Code 1, ILLEGAL_WORD, raised by the decoder (and by ADV's meaning for a duration no legal word carries), with the
  word as the recorded value. Safe: a claim about the run is unprovable (R153). -/
  | illegalWord (w : Word)
  /-- Code 1, ILLEGAL_WORD, raised where a byte stream of odd length is presented (20_memory.md R42). Safe, as above. -/
  | illegalStream (bytes : List Byte)
  /-- Code 2, ACC_OVERFLOW, raised by ADV, and by TICK in a timed state, for a carry from SEC = 2^SEC_W - 1, with the
  operation word. Safe, as above. -/
  | accOverflow (w : Word)
  /-- Code 3, NOT_INITIALISED, raised by TICK, EDGE, TRANS and ADV while INITED = 0, with the operation word. Safe, as
  above. -/
  | notInitialised (w : Word)
deriving DecidableEq, Repr

/-- The state right after reset: the "value after INIT" of every element (10_state.md R35), INIT being the power-on reset
(70_reset_and_hazards.md R180). The parameters are the defaults of 00_scope.md R7 (assumption log 1, 2 and 3) and nothing is
presented yet (assumption log 5). -/
def State.reset : State where
  state := .poweredOff
  subsec := 0#10
  sec := 0
  snap := Params.reference.snapshotReset
  outPwr := false
  outShdn := false
  outLed := false
  asleep := false
  inited := true
  sleepPending := false
  entryPending := none
  cfg := Params.reference
  agenda := []

end Sys2Proof.Machine
end

