-- ==== Sys2Proof/Machine/Ops.lean ====
section
/-! DEFINITION. The shared operations: the guard on INITED, the lines, the controller's `Transition` (40_state_machine_controller.md),
the accumulator's `Advance` (41_timing_accumulator.md), the turns on the agenda, and the codes of the refusals. PWRSEQ takes no
exception: its interrupt is the operation EDGE, which saves nothing and returns nothing (60_exceptions.md R150, R160, R161). -/

namespace Sys2Proof.Machine

/-- The state codes of 10_state.md R21. -/
def SupervisorState.code : SupervisorState → BitVec 3
  | .unknown => 0#3
  | .booting => 1#3
  | .idle => 2#3
  | .shuttingDown => 3#3
  | .poweredOff => 4#3

/-- `Timed(s)` (40_state_machine_controller.md R80). -/
def timed : SupervisorState → Bool
  | .booting | .shuttingDown => true
  | .unknown | .idle | .poweredOff => false

/-- `if INITED == 0: raise Refuse(NOT_INITIALISED)`, the guard of every operation but INIT (70_reset_and_hazards.md R181),
with the operation word as the recorded value (60_exceptions.md R152). -/
def requireInit (i : Instr) (s : State) (body : Host.Outcome State Fault Refusal) : Host.Outcome State Fault Refusal :=
  if s.inited then body else .refused (.notInitialised (encode i))

/-! ### The lines and the entry actions -/

/-- One output line is given a level (10_state.md R28). -/
def writeLine (l : Line) (v : Bool) (s : State) : State :=
  match l with
  | .pwr => { s with outPwr := v }
  | .shdn => { s with outShdn := v }
  | .led => { s with outLed := v }

/-- The writes of the entry action of each state, in the order of the source's table (40_state_machine_controller.md section 3,
R83 to R88). The order matters only under ENTRY_RACE (42_tick_dispatcher.md R120). -/
def entryWrites : SupervisorState → List LineWrite
  | .unknown => []
  | .booting => [⟨.led, false⟩, ⟨.pwr, true⟩, ⟨.shdn, false⟩]
  | .idle => [⟨.led, true⟩]
  | .shuttingDown => [⟨.shdn, true⟩, ⟨.led, false⟩]
  | .poweredOff => [⟨.pwr, false⟩, ⟨.led, false⟩, ⟨.shdn, false⟩]

/-- `EntryAction(s)`: all its writes, and no other (40_state_machine_controller.md R88). -/
def entryAction (st : SupervisorState) (s : State) : State :=
  (entryWrites st).foldl (fun s w => writeLine w.line w.level s) s

/-- STATE is written. -/
def setState (st : SupervisorState) (s : State) : State := { s with state := st }

/-- The clock is cleared (40_state_machine_controller.md R81). -/
def clearClock (s : State) : State := { s with subsec := 0#10, sec := 0 }

/-- `Transition(s)`: unconditional (40_state_machine_controller.md R81). -/
def transition (st : SupervisorState) (s : State) : State :=
  entryAction st (if timed st then clearClock (setState st s) else setState st s)

/-! ### The timing accumulator -/

/-- `Advance(d)` (41_timing_accumulator.md R100), none where the carry would pass 2^SEC_W - 1 and ACC_OVERFLOW is raised before
any write (R103; 10_state.md R25). The sum is computed exactly and then fits its register (R102). -/
def advance (d : Nat) (s : State) : Option State :=
  if timed s.state then
    if 1000 ≤ s.subsec.toNat + d then
      if 2 ^ s.cfg.secW ≤ s.sec + 1 then none
      else some { s with sec := s.sec + 1, subsec := BitVec.ofNat 10 (s.subsec.toNat + d - 1000) }
    else some { s with subsec := BitVec.ofNat 10 (s.subsec.toNat + d) }
  else some s

/-- SEC is assigned a value, truncated to SEC_W bits (43_edge_detector.md R133). -/
def setSec (v : Nat) (s : State) : State := { s with sec := v % 2 ^ s.cfg.secW }

/-! ### The split timeout transition -/

/-- The state a split transition goes to: the first component of ENTRY_PENDING (10_state.md R32). -/
def EntryPos.target : EntryPos → SupervisorState
  | .idle => .idle
  | .poweredOff _ => .poweredOff

/-- `Writes(s)[k]` (42_tick_dispatcher.md R120). -/
def EntryPos.write : EntryPos → LineWrite
  | .idle => (entryWrites .idle).get (0 : Fin 1)
  | .poweredOff k => (entryWrites .poweredOff).get k

/-- The position after one ENTRY_STEP, none after the last write (42_tick_dispatcher.md R120). -/
def EntryPos.next : EntryPos → Option EntryPos
  | .idle => none
  | .poweredOff 0 => some (.poweredOff 1)
  | .poweredOff 1 => some (.poweredOff 2)
  | .poweredOff 2 => none

/-! ### The turns of the agents -/

/-- The next turn, and the state in which it is no longer on the agenda. With nothing presented it is the main line's turn,
since its loop is unbounded (42_tick_dispatcher.md R118; assumption log 5). -/
def nextEvent (s : State) : Event × State :=
  match s.agenda with
  | [] => (.mainLine, s)
  | e :: rest => (e, { s with agenda := rest })

/-- A stream of operation words stored as bytes is presented: its words go to the end of the agenda (20_memory.md R41), and a
stream of odd length is refused (R42). -/
def presentBytes (bytes : List Byte) (s : State) : Host.Outcome State Fault Refusal :=
  match wordsOfBytes bytes with
  | some ws => .next { s with agenda := s.agenda ++ ws.map .op }
  | none => .refused (.illegalStream bytes)

/-! ### The refusals as the outside reads them -/

/-- The code of a refusal (60_exceptions.md R152); none for a reason that is not the spec's. -/
def Refusal.code : Refusal → Option Nat
  | .illegalWord _ => some 1
  | .illegalStream _ => some 1
  | .accOverflow _ => some 2
  | .notInitialised _ => some 3
  | _ => none

/-- The recorded value of a refusal (60_exceptions.md R152): the word. A stream of odd length has no word of its own
(assumption log 8). -/
def Refusal.recorded : Refusal → Option Word
  | .illegalWord w => some w
  | .accOverflow w => some w
  | .notInitialised w => some w
  | _ => none

end Sys2Proof.Machine
end

