-- ==== Sys2Proof/Machine/Operands.lean ====
section
/-! DEFINITION. Operand assembly and the pin sample: every operand is an unsigned field, zero-extended (30_encoding.md R61). -/

namespace Sys2Proof.Machine

/-- BTN_BIT, the bit of a sample that holds the button line (00_scope.md R7). -/
def btnBit : Nat := 0

/-- RDY_BIT, the bit of a sample that holds the host-ready line (00_scope.md R7). -/
def rdyBit : Nat := 1

/-- `rise = (PINS XOR SNAP) AND PINS` (43_edge_detector.md R132). -/
def rising (pins snap : Byte) : Byte := (pins ^^^ snap) &&& pins

/-- The button line rises in this EDGE (43_edge_detector.md R130, step 3). -/
def buttonRises (pins snap : Byte) : Bool := (rising pins snap).getLsbD btnBit

/-- The host-ready line rises in this EDGE (43_edge_detector.md R130, step 2). -/
def readyRises (pins snap : Byte) : Bool := (rising pins snap).getLsbD rdyBit

/-- DUR as the number `Advance` adds (30_encoding.md R61). -/
def durationMs (dur : BitVec 10) : Nat := dur.toNat

/-- A duration ADV admits (30_encoding.md R65). -/
def durationLegal (dur : BitVec 10) : Bool := decide (durationMs dur ≤ 999)

end Sys2Proof.Machine
end

