-- ==== Sys2Proof/Machine/Adv.lean ====
section
/-! DEFINITION. ADV, the test-port operation for the accumulator's contract (41_timing_accumulator.md R101). -/

namespace Sys2Proof.Machine

/-- ADV DUR (41_timing_accumulator.md R101). The refusals stand in the priority of 60_exceptions.md R159. A duration of 1000
or more has no legal word, so a decoded ADV never has one; it is refused as the illegal word it would be (30_encoding.md
R65; assumption log 9). -/
def execAdv (dur : BitVec 10) (s : State) : Host.Outcome State Fault Refusal :=
  if durationLegal dur then
    requireInit (.adv dur) s
      (match advance (durationMs dur) s with
        | none => .refused (.accOverflow (encode (.adv dur)))
        | some t => .next t)
  else .refused (.illegalWord (encode (.adv dur)))

end Sys2Proof.Machine
end

