-- ==== Sys2Proof/Machine/Flags.lean ====
section
/-! DEFINITION. The status elements ASLEEP, SLEEP_PENDING and ENTRY_PENDING (10_state.md R30 to R33): PWRSEQ has no
condition codes. -/

namespace Sys2Proof.Machine

/-- TICK has no step now (42_tick_dispatcher.md R116, 60_exceptions.md R154). -/
def held (s : State) : Bool := s.asleep || s.sleepPending || s.entryPending.isSome

/-- ASLEEP is cleared, as every EDGE does (43_edge_detector.md R131). -/
def wake (s : State) : State := { s with asleep := false }

/-- `TickSleep()` (42_tick_dispatcher.md R110): whole, or its first half under SLEEP_RACE (R119). -/
def tickSleep (s : State) : State :=
  if s.cfg.sleepRace then { s with sleepPending := true } else { s with asleep := true }

/-- SLEEP_ENTER, the second half of a split sleep tick (42_tick_dispatcher.md R119). -/
def sleepEnter (s : State) : State := { s with asleep := true, sleepPending := false }

/-- ENTRY_STEP at a position: one write of the entry action, then ENTRY_PENDING moves on (42_tick_dispatcher.md R120). -/
def entryStep (p : EntryPos) (s : State) : State :=
  { writeLine p.write.line p.write.level s with entryPending := p.next }

/-- The timeout transition of a TICK: `Transition(next)`, or its first half under ENTRY_RACE, which leaves the entry action to
ENTRY_STEP (42_tick_dispatcher.md R110, R120). -/
def timeoutTransition (p : EntryPos) (s : State) : State :=
  if s.cfg.entryRace then { s with state := p.target, entryPending := some p } else transition p.target s

end Sys2Proof.Machine
end

