-- ==== Sys2Proof/Machine/Edge.lean ====
section
/-! DEFINITION. EDGE, the Edge Detector and interrupt handler (43_edge_detector.md R130 to R140). -/

namespace Sys2Proof.Machine

/-- Step 1: the sample becomes the snapshot (43_edge_detector.md R130). -/
def recordSample (pins : Byte) (s : State) : State := { s with snap := pins }

/-- Step 2, the host-ready rule: in `Booting`, and only there, SEC is forced to BOOT_TIMEOUT (43_edge_detector.md R133, R134). -/
def readyRule (s : State) : State :=
  match s.state with
  | .booting => setSec s.cfg.bootTimeout s
  | .unknown | .idle | .shuttingDown | .poweredOff => s

/-- Step 3, the button rule (43_edge_detector.md R135 to R137). -/
def buttonRule (s : State) : State :=
  match s.state with
  | .idle => transition .shuttingDown s
  | .poweredOff => transition .booting s
  | .unknown | .booting | .shuttingDown => s

/-- The handler's three steps in their order (43_edge_detector.md R130, R138). -/
def edgeDetect (pins : Byte) (s : State) : State :=
  let s1 := wake (recordSample pins s)
  let s2 := if readyRises pins s.snap then readyRule s1 else s1
  if buttonRises pins s.snap then buttonRule s2 else s2

/-- EDGE PINS (43_edge_detector.md R130). -/
def execEdge (pins : Byte) (s : State) : Host.Outcome State Fault Refusal :=
  requireInit (.edge pins) s (.next (edgeDetect pins s))

end Sys2Proof.Machine
end

