-- ==== Sys2Proof/Machine/Init.lean ====
section
/-! DEFINITION. INIT, the initialisation and power-on reset (70_reset_and_hazards.md R180). -/

namespace Sys2Proof.Machine

/-- The writes of INIT before its transition: STATE is the placeholder `Unknown`, which is never observed
(70_reset_and_hazards.md R180). -/
def clearForInit (s : State) : State :=
  { s with
    inited := true, state := .unknown, subsec := 0#10, sec := 0, snap := s.cfg.snapshotReset,
    asleep := false, sleepPending := false, entryPending := none }

/-- INIT (70_reset_and_hazards.md R180): never refused, never held. -/
def execInit (s : State) : Host.Outcome State Fault Refusal := .next (transition .poweredOff (clearForInit s))

end Sys2Proof.Machine
end

