-- ==== Sys2Proof/Machine/Tick.lean ====
section
/-! DEFINITION. TICK, the Tick Dispatcher (42_tick_dispatcher.md R110 to R116). -/

namespace Sys2Proof.Machine

/-- The LED is toggled. -/
def toggleLed (s : State) : State := { s with outLed := !s.outLed }

/-- `TickTimed(p, limit, next)` (42_tick_dispatcher.md R110): toggle, `Advance`, then the comparison, in one TICK. -/
def tickTimed (periodMs limit : Nat) (nxt : EntryPos) (s : State) : Host.Outcome State Fault Refusal :=
  match advance periodMs (toggleLed s) with
  | none => .refused (.accOverflow (encode .tick))
  | some t => .next (if limit ≤ t.sec then timeoutTransition nxt t else t)

/-- `TickError()` at its end: the LED is toggled twice (42_tick_dispatcher.md R115). What happens in between is
`errorBlink` (Timing.lean). -/
def tickError (s : State) : State := toggleLed (toggleLed s)

/-- The action of the state TICK found at its start (42_tick_dispatcher.md R110). -/
def tickAction (s : State) : Host.Outcome State Fault Refusal :=
  match s.state with
  | .booting => tickTimed s.cfg.bootTickMs s.cfg.bootTimeout .idle s
  | .shuttingDown => tickTimed s.cfg.shutdownTickMs s.cfg.shutdownTimeout (.poweredOff 0) s
  | .idle => .next (tickSleep s)
  | .poweredOff => .next (tickSleep s)
  | .unknown => .next (tickError s)

/-- TICK (42_tick_dispatcher.md R110). A held TICK has no step: the turn passes and nothing changes (R116; assumption log 6). -/
def execTick (s : State) : Host.Outcome State Fault Refusal :=
  requireInit .tick s (if held s then .next s else tickAction s)

end Sys2Proof.Machine
end

