-- ==== Sys2Proof/Machine/Trans.lean ====
section
/-! DEFINITION. TRANS, the test-port operation for the controller's contract (40_state_machine_controller.md R82 to R89). -/

namespace Sys2Proof.Machine

/-- TRANS Unknown (40_state_machine_controller.md R82, R87): only STATE changes. -/
def execTransUnknown (s : State) : Host.Outcome State Fault Refusal :=
  requireInit .transUnknown s (.next (transition .unknown s))

/-- TRANS Booting (40_state_machine_controller.md R82, R83). -/
def execTransBooting (s : State) : Host.Outcome State Fault Refusal :=
  requireInit .transBooting s (.next (transition .booting s))

/-- TRANS Idle (40_state_machine_controller.md R82, R86). -/
def execTransIdle (s : State) : Host.Outcome State Fault Refusal :=
  requireInit .transIdle s (.next (transition .idle s))

/-- TRANS ShuttingDown (40_state_machine_controller.md R82, R84). -/
def execTransShuttingDown (s : State) : Host.Outcome State Fault Refusal :=
  requireInit .transShuttingDown s (.next (transition .shuttingDown s))

/-- TRANS PoweredOff (40_state_machine_controller.md R82, R85). -/
def execTransPoweredOff (s : State) : Host.Outcome State Fault Refusal :=
  requireInit .transPoweredOff s (.next (transition .poweredOff s))

end Sys2Proof.Machine
end

