-- ==== Sys2Proof/Machine/Dispatch.lean ====
section
/-! DEFINITION. The dispatch: one arm per constructor of Instr, each one direct call of its meaning. -/

namespace Sys2Proof.Machine

def exec (i : Instr) (s : State) : Host.Outcome State Fault Refusal :=
  match i with
  | .tick => Sys2Proof.Machine.execTick s
  | .edge pins => Sys2Proof.Machine.execEdge pins s
  | .transUnknown => Sys2Proof.Machine.execTransUnknown s
  | .transBooting => Sys2Proof.Machine.execTransBooting s
  | .transIdle => Sys2Proof.Machine.execTransIdle s
  | .transShuttingDown => Sys2Proof.Machine.execTransShuttingDown s
  | .transPoweredOff => Sys2Proof.Machine.execTransPoweredOff s
  | .adv dur => Sys2Proof.Machine.execAdv dur s
  | .init => Sys2Proof.Machine.execInit s

end Sys2Proof.Machine
end

