-- ==== Sys2Proof/Machine/MainLine.lean ====
section
/-! DEFINITION. A turn of the main line, and a turn of any agent (42_tick_dispatcher.md R116, R118 to R120). -/

namespace Sys2Proof.Machine

/-- The main line's one next step: SLEEP_ENTER while SLEEP_PENDING is 1 (42_tick_dispatcher.md R119), ENTRY_STEP while
ENTRY_PENDING is not none (R120), else TICK. Both pending at once is a state no run from INIT on reaches (assumption log 10). DESIGN CHOICE,
unsafe: before INIT, where both elements may have any value (10_state.md R35), SLEEP_ENTER and ENTRY_STEP run unrefused, as
R181 refuses only operations and R119 and R120 give no guard (assumption log 23); a TICK there is refused (assumption log 11). -/
def mainLineTurn (s : State) : Host.Outcome State Fault Refusal :=
  if s.sleepPending then .next (sleepEnter s)
  else match s.entryPending with
    | some p => .next (entryStep p s)
    | none => exec .tick s

/-- A presented word: decoded first, so that ILLEGAL_WORD comes before every other refusal (60_exceptions.md R159), then
performed. -/
def performWord (w : Word) (s : State) : Host.Outcome State Fault Refusal :=
  match decode w with
  | .instr i => exec i s
  | .illegal _ => .refused (.illegalWord w)

/-- A turn of an agent. -/
def perform (e : Event) (s : State) : Host.Outcome State Fault Refusal :=
  match e with
  | .op w => performWord w s
  | .mainLine => mainLineTurn s

/-- The operation a word of `nbits` bits stands for, put first on the agenda: the next step takes it. DESIGN CHOICE, unsafe: the
spec has one length, 16 bits, and says nothing of another (20_memory.md R41, 30_encoding.md R55). A value of fewer than 16 bits
is zero-extended to a 16-bit word, and of one that needs more the low 16 bits are presented, though `decodeTableWord` reads no
operation from the latter (assumption log 24). -/
def presentWord (s : State) (nbits w : Nat) : State :=
  { s with agenda := .op (BitVec.ofNat 16 (w % 2 ^ nbits)) :: s.agenda }

end Sys2Proof.Machine
end

