-- ==== Sys2Proof/Machine/Step.lean ====
section
/-! DEFINITION. One step of PWRSEQ: the next turn of the agenda is taken and performed (00_scope.md R6, 20_memory.md R47). -/

namespace Sys2Proof.Machine

/-- One step. PWRSEQ has no program counter and fetches nothing (10_state.md R33, 20_memory.md R52): the operation comes from
the agents, through the agenda. -/
def step (s : State) : Host.Outcome State Fault Refusal :=
  perform (nextEvent s).1 (nextEvent s).2

/-- `s` with an operation word presented for the very next step (assumption log 5). -/
def State.withFetchWord (s : State) (nbits w : Nat) : State := presentWord s nbits w

end Sys2Proof.Machine
end

