-- ==== Sys2Proof/Machine/Asm.lean ====
section
/-! DEFINITION. The assembler syntax and the pseudo-operations (30_encoding.md R68, R69). They give words to present and change
nothing in the block. What R68 leaves open of the text (blanks, the case of a state name, an out-of-range number) is
assumption log 19. -/

namespace Sys2Proof.Machine

/-- The pseudo-operations of 30_encoding.md R69: each level is 0 (false) or 1 (true). -/
inductive Pseudo
  | press (ready : Bool)
  | release (ready : Bool)
  | click (ready : Bool)
  | hostUp (button : Bool)
  | hostDown (button : Bool)
  | wait (n : Nat)
deriving DecidableEq, Repr

/-- The sample with the button line at `b`, host-ready at `r` and the unrelated lines at 0 (30_encoding.md R69). -/
def sample (b r : Bool) : Byte := 0#6 ++ BitVec.ofBool r ++ BitVec.ofBool b

/-- The operations a pseudo-operation expands to (30_encoding.md R69). -/
def Pseudo.expand : Pseudo → List Instr
  | .press r => [.edge (sample true r)]
  | .release r => [.edge (sample false r)]
  | .click r => [.edge (sample true r), .edge (sample false r)]
  | .hostUp b => [.edge (sample b true)]
  | .hostDown b => [.edge (sample b false)]
  | .wait n => List.replicate n .tick

/-! ### The text of one line, as a list of characters -/

/-- The value of a digit in a base, none where it is no digit of that base. -/
def digit (base : Nat) (c : Char) : Option Nat :=
  let v := if '0' ≤ c ∧ c ≤ '9' then c.toNat - '0'.toNat
    else if 'a' ≤ c ∧ c ≤ 'f' then c.toNat - 'a'.toNat + 10
    else if 'A' ≤ c ∧ c ≤ 'F' then c.toNat - 'A'.toNat + 10
    else base
  if v < base then some v else none

/-- The number written by digits in a base, the most significant first, after a value already read. -/
def digits (base : Nat) : Nat → List Char → Option Nat
  | acc, [] => some acc
  | acc, c :: cs => (digit base c).bind fun v => digits base (acc * base + v) cs

/-- A number, decimal or with the prefix `0x` or `0b` (30_encoding.md R68). -/
def number : List Char → Option Nat
  | [] => none
  | '0' :: 'x' :: c :: cs => digits 16 0 (c :: cs)
  | '0' :: 'b' :: c :: cs => digits 2 0 (c :: cs)
  | c :: cs => digits 10 0 (c :: cs)

/-- A line without its comment, which a `;` starts (30_encoding.md R68). -/
def stripComment : List Char → List Char := List.takeWhile (· ≠ ';')

/-- The tokens of a line, parted by blanks; `cur` is the token being read, its last character first. -/
def tokens : List Char → List Char → List (List Char)
  | cur, [] => if cur.isEmpty then [] else [cur.reverse]
  | cur, c :: cs =>
    if c = ' ' ∨ c = '\t' then (if cur.isEmpty then tokens [] cs else cur.reverse :: tokens [] cs)
    else tokens (c :: cur) cs

/-- A level of R69, 0 or 1. -/
def level (t : List Char) : Option Bool :=
  match number t with
  | some 0 => some false
  | some 1 => some true
  | _ => none

/-- TRANS with a state by the source's name (30_encoding.md R68). -/
def transOf (t : List Char) : Option Instr :=
  if t = "Unknown".toList then some .transUnknown
  else if t = "Booting".toList then some .transBooting
  else if t = "Idle".toList then some .transIdle
  else if t = "ShuttingDown".toList then some .transShuttingDown
  else if t = "PoweredOff".toList then some .transPoweredOff
  else none

/-- A mnemonic with one operand (30_encoding.md R68, R69). -/
def parseUnary (m a : List Char) : Option (List Instr) :=
  if m = "EDGE".toList then
    (number a).bind fun n => if n ≤ 255 then some [.edge (BitVec.ofNat 8 n)] else none
  else if m = "ADV".toList then
    (number a).bind fun n => if n ≤ 999 then some [.adv (BitVec.ofNat 10 n)] else none
  else if m = "TRANS".toList then (transOf a).map fun i => [i]
  else if m = "PRESS".toList then (level a).map fun b => (Pseudo.press b).expand
  else if m = "RELEASE".toList then (level a).map fun b => (Pseudo.release b).expand
  else if m = "CLICK".toList then (level a).map fun b => (Pseudo.click b).expand
  else if m = "HOSTUP".toList then (level a).map fun b => (Pseudo.hostUp b).expand
  else if m = "HOSTDOWN".toList then (level a).map fun b => (Pseudo.hostDown b).expand
  else if m = "WAIT".toList then (number a).map fun n => (Pseudo.wait n).expand
  else none

/-- A mnemonic alone, with the repeat count of `TICK*<n>` (30_encoding.md R68). -/
def parseNullary (m : List Char) : Option (List Instr) :=
  if m = "TICK".toList then some [.tick]
  else if m = "INIT".toList then some [.init]
  else if m.take 5 = "TICK*".toList then (number (m.drop 5)).map fun n => List.replicate n .tick
  else none

/-- The operations of one line; a line that is blank or only a comment has none of them, and a line that is not in the syntax
has no meaning (30_encoding.md R68, R69). -/
def parseLine (line : List Char) : Option (List Instr) :=
  match tokens [] (stripComment line) with
  | [] => some []
  | [m] => parseNullary m
  | [m, a] => parseUnary m a
  | _ => none

/-- The operation words of one line (30_encoding.md R68). -/
def assembleLine (line : List Char) : Option (List Word) := (parseLine line).map (List.map encode)

end Sys2Proof.Machine
end

