-- ==== Sys2Proof/Machine/Timing.lean ====
section
/-! DEFINITION. Nominal durations and the LED pattern inside a TICK in `Unknown` (70_reset_and_hazards.md R195, R196). No step
reads them: "a model need not model time at all" (R196; assumption log 14). -/

namespace Sys2Proof.Machine

/-- How long an operation takes, nominally (70_reset_and_hazards.md R196). -/
inductive Duration
  /-- So many milliseconds. -/
  | ms (n : Nat)
  /-- Until the next EDGE: the low-power sleep. -/
  | untilEdge
  /-- The source gives no duration. -/
  | notGiven
deriving DecidableEq, Repr

/-- The nominal duration of an operation performed in a state where it is neither refused nor held
(70_reset_and_hazards.md R196). -/
def nominalDuration (i : Instr) (s : State) : Duration :=
  match i with
  | .tick =>
    match s.state with
    | .booting => .ms s.cfg.bootTickMs
    | .shuttingDown => .ms s.cfg.shutdownTickMs
    | .unknown => .ms (s.cfg.errShortMs + s.cfg.errLongMs)
    | .idle | .poweredOff => .untilEdge
  | .adv dur => .ms (durationMs dur)
  | .edge _ | .transUnknown | .transBooting | .transIdle | .transShuttingDown | .transPoweredOff | .init => .notGiven

/-- The levels OUT_LED takes inside a TICK in `Unknown` and for how many milliseconds each: inverted for ERR_SHORT_MS, then
restored for ERR_LONG_MS (42_tick_dispatcher.md R115, 70_reset_and_hazards.md R195). -/
def errorBlink (s : State) : List (Bool × Nat) := [(!s.outLed, s.cfg.errShortMs), (s.outLed, s.cfg.errLongMs)]

end Sys2Proof.Machine
end

