-- ==== Sys2Proof/Machine/Observe.lean ====
section
/-! DEFINITION. The observation words of 10_state.md R34: read-only views, without an address, that no operation reads or
writes. -/

namespace Sys2Proof.Machine

/-- One bit of a word. -/
def bit (b : Bool) : BitVec 1 := BitVec.ofBool b

/-- STATUS (10_state.md R34): reserved [15:10], ENTRY_PENDING not none [9], SLEEP_PENDING [8], INITED [7], ASLEEP [6],
OUT_LED [5], OUT_SHDN [4], OUT_PWR [3], STATE [2:0]. -/
def statusWord (s : State) : Word :=
  0#6 ++ bit s.entryPending.isSome ++ bit s.sleepPending ++ bit s.inited ++ bit s.asleep ++ bit s.outLed ++ bit s.outShdn ++
    bit s.outPwr ++ s.state.code

/-- CLOCK (10_state.md R34): SUBSEC in [9:0], SEC in [9+SEC_W:10], the rest 0; none where SEC_W is above 22 and the layout has
no room for SEC. -/
def clockWord (s : State) : Option (BitVec 32) :=
  if s.cfg.secW ≤ 22 then some (BitVec.ofNat 22 (s.sec % 2 ^ s.cfg.secW) ++ s.subsec) else none

/-- SNAPSHOT (10_state.md R34): SNAP. -/
def snapshotWord (s : State) : Byte := s.snap

/-- What a claim may observe of a state (10_state.md R26, decision D21). -/
structure Observation where
  status : Word
  clock : Option (BitVec 32)
  snapshot : Byte
deriving DecidableEq, Repr

/-- The observation: the clock is read only in a timed state (10_state.md R26). -/
def observe (s : State) : Observation where
  status := statusWord s
  clock := if timed s.state then clockWord s else none
  snapshot := snapshotWord s

end Sys2Proof.Machine
end

