-- ==== Sys2Proof/Safety.lean ====
section
/-! DEFINITION. What counts as a safe run, in the terms claims use: the defect indicator, quiescent states, defined flows, and
the two invariants of the step. -/

namespace Sys2Proof.Machine

/-- The state a step or an operation answers, none where it stops. -/
def nextOf (o : Host.Outcome State Fault Refusal) : Option State :=
  match o with
  | .next s => some s
  | .fault _ => none
  | .refused _ => none

/-- The refusal a step or an operation answers, none where it goes on. -/
def refusalOf (o : Host.Outcome State Fault Refusal) : Option Refusal :=
  match o with
  | .next _ => none
  | .fault _ => none
  | .refused r => some r

/-- `k` steps of the machine (Host/Core.lean), stopping at the first refusal. -/
def runSteps (k : Nat) (s : State) : Host.Outcome State Fault Refusal := Sys2Proof.core.run k s

/-- The one defensive condition, flagged and not stopped at: STATE = `Unknown` after INIT (60_exceptions.md R151,
93_implementation_defined.md X2). -/
def defect (s : State) : Bool := s.inited && decide (s.state = .unknown)

/-- The main line waits for nothing: a TICK is not held (42_tick_dispatcher.md R116). -/
def awake (s : State) : Prop := s.asleep = false ∧ s.sleepPending = false ∧ s.entryPending = none

/-- A quiescent state: from it only EDGE, INIT or a test-port operation can change anything (42_tick_dispatcher.md R118). -/
def quiescent (s : State) : Bool := s.asleep && !s.sleepPending && s.entryPending.isNone

/-- The operations of a defined flow: INIT, TICK and EDGE (00_scope.md section 6). -/
def definedOp : Instr → Bool
  | .tick | .edge _ | .init => true
  | .transUnknown | .transBooting | .transIdle | .transShuttingDown | .transPoweredOff | .adv _ => false

/-- A turn of a defined flow: one of the main line, or a word of INIT, TICK or EDGE. -/
def Event.inDefinedFlow : Event → Bool
  | .mainLine => true
  | .op w =>
    match decode w with
    | .instr i => definedOp i
    | .illegal _ => false

/-- The state with `d` milliseconds added to its clock, exactly (41_timing_accumulator.md R102). -/
def addClock (d : Nat) (s : State) : State :=
  { s with sec := s.sec + (s.subsec.toNat + d) / 1000, subsec := BitVec.ofNat 10 ((s.subsec.toNat + d) % 1000) }

/-- The number of ticks of a period to a timeout, k = max(1, ceil(1000 × limit / p)) (42_tick_dispatcher.md R117). -/
def ticksTo (limit p : Nat) : Nat := max 1 ((1000 * limit + p - 1) / p)

/-- The turn in which EDGE is presented with a sample. -/
def edgeEvent (pins : Byte) : Event := .op (encode (.edge pins))

/-- What every step keeps, whatever operations are presented. -/
structure Inv (s : State) : Prop where
  /-- The parameters are legal (00_scope.md R7). -/
  legal : s.cfg.Legal
  /-- SUBSEC is at most 999 (10_state.md R24, 41_timing_accumulator.md R102). -/
  subsec_le : s.subsec.toNat ≤ 999
  /-- SEC fits its SEC_W bits (10_state.md R25). -/
  sec_lt : s.sec < 2 ^ s.cfg.secW
  /-- SLEEP_PENDING is 0 when SLEEP_RACE is false (10_state.md R32). -/
  sleepPending_race : s.cfg.sleepRace = false → s.sleepPending = false
  /-- ENTRY_PENDING is none when ENTRY_RACE is false (10_state.md R32). -/
  entryPending_race : s.cfg.entryRace = false → s.entryPending = none
  /-- The main line waits for at most one thing (42_tick_dispatcher.md R116). -/
  asleep_alone : s.asleep = true → s.sleepPending = false ∧ s.entryPending = none
  /-- The main line waits for at most one thing (42_tick_dispatcher.md R116). -/
  sleepPending_alone : s.sleepPending = true → s.entryPending = none

/-- The levels of OUT_PWR, OUT_SHDN and, outside the timed states, OUT_LED that a state goes with in a defined flow
(40_state_machine_controller.md R91). -/
def linesOfState (s : State) : Prop :=
  match s.state with
  | .unknown => False
  | .booting => s.outPwr = true ∧ s.outShdn = false
  | .idle => s.outPwr = true ∧ s.outShdn = false ∧ s.outLed = true
  | .shuttingDown => s.outPwr = true ∧ s.outShdn = true
  | .poweredOff => s.outPwr = false ∧ s.outShdn = false ∧ s.outLed = false

/-- What every step of a defined flow keeps, from INIT on. -/
structure DefinedInv (s : State) : Prop where
  inv : Inv s
  /-- INIT has been performed (10_state.md R31). -/
  inited : s.inited = true
  /-- Only INIT, TICK, EDGE and turns of the main line come (00_scope.md section 6). -/
  flow : s.agenda.all Event.inDefinedFlow = true
  /-- STATE is never `Unknown` (10_state.md R23). -/
  known : s.state ≠ .unknown
  /-- SEC is at most BOOT_TIMEOUT in `Booting` (10_state.md R25). -/
  sec_booting : s.state = .booting → s.sec ≤ s.cfg.bootTimeout
  /-- SEC is at most max(SHUTDOWN_TIMEOUT - 1, 0) in `ShuttingDown` between operations (41_timing_accumulator.md R103). -/
  sec_shuttingDown : s.state = .shuttingDown → s.sec ≤ s.cfg.shutdownTimeout - 1
  /-- The lines go with the state, where the entry-action race is absent (40_state_machine_controller.md R91). -/
  lines : s.cfg.entryRace = false → linesOfState s

end Sys2Proof.Machine
end

