-- ==== Sys2Proof/Certificates/Slice0/Obligations.lean ====
section
/-! DEFINITION. The statements about the model, for the provers. Each says the rule of spec/ it formalises. Where a statement
fixes a next state with `{ s with … }`, that is its frame too: every element not named keeps its value. -/

open Sys2Proof Sys2Proof.Machine

/-! ### Encoding -/

/-- Words written out from the formats of 30_encoding.md R57 to R60 decode to the operations they stand for. -/
def Obligations.DecodeGivesTheTableWords : Prop :=
  decode 0x2000#16 = .instr .tick ∧ decode 0x4003#16 = .instr (.edge 0x03#8) ∧
  decode 0x6000#16 = .instr .transUnknown ∧ decode 0x6001#16 = .instr .transBooting ∧
  decode 0x6002#16 = .instr .transIdle ∧ decode 0x6003#16 = .instr .transShuttingDown ∧
  decode 0x6004#16 = .instr .transPoweredOff ∧ decode 0x80C8#16 = .instr (.adv 200#10) ∧
  decode 0xE000#16 = .instr .init

/-- 30_encoding.md R62 to R65: exactly the words with a reserved bit set, a reserved opcode, a state code above 4 or a duration
of 1000 or more are illegal, and such a word is refused with reason ILLEGAL_WORD in every state. -/
def Obligations.IllegalWordsAreRefused : Prop :=
  ∀ w : Word,
    ((((opField w = 1#3 ∨ opField w = 7#3) ∧ w.extractLsb' 0 13 ≠ 0#13) ∨ (opField w = 2#3 ∧ w.extractLsb' 8 5 ≠ 0#5) ∨
        (opField w = 3#3 ∧ w.extractLsb' 3 10 ≠ 0#10) ∨ (opField w = 4#3 ∧ w.extractLsb' 10 3 ≠ 0#3) ∨
        (opField w = 0#3 ∨ opField w = 5#3 ∨ opField w = 6#3) ∨
        (opField w = 3#3 ∧ 4 < (w.extractLsb' 0 3).toNat) ∨ (opField w = 4#3 ∧ 1000 ≤ (w.extractLsb' 0 10).toNat)) ↔
      ∃ why, decode w = .illegal why) ∧
    ∀ (why : Illegal) (s : State) (rest : List Event), decode w = .illegal why → s.agenda = .op w :: rest →
      step s = .refused (.illegalWord w)

/-- Decoding the encoding of a well-formed operation gives it back, with every operand (30_encoding.md R57 to R61, R66). -/
def Obligations.DecodeEncodeRoundTrip : Prop := ∀ i : Instr, i.wf = true → decode (encode i) = .instr i

/-- Each legal word has one meaning: what it decodes to is well-formed and is encoded as that word (30_encoding.md R66). -/
def Obligations.EncodeDecodeRoundTrip : Prop :=
  ∀ (w : Word) (i : Instr), decode w = .instr i → i.wf = true ∧ encode i = w

/-- The rows of the opcode table do not overlap, and a word lies in the row of the operation it decodes to. -/
def Obligations.OpcodeRowsAreDisjoint : Prop :=
  (∀ (i j : Instr) (w : Word), (rowOf i).holds w = true → (rowOf j).holds w = true → rowOf i = rowOf j) ∧
  ∀ (w : Word) (i : Instr), decode w = .instr i → (rowOf i).holds w = true

/-- 20_memory.md R41 and R42: a stream of words stored as bytes is little-endian and presented word by word; a stream of odd
length is refused. That an odd stream is refused whole, at its presentation, is the model's choice (assumption log 8). -/
def Obligations.ByteStreamsAreLittleEndian : Prop :=
  (∀ (ws : List Word) (s : State),
    presentBytes (ws.flatMap fun w => [w.extractLsb' 0 8, w.extractLsb' 8 8]) s =
      .next { s with agenda := s.agenda ++ ws.map .op }) ∧
  ∀ (bytes : List Byte) (s : State), bytes.length % 2 = 1 → presentBytes bytes s = .refused (.illegalStream bytes)

/-- 30_encoding.md R69: PRESS is a rising edge only when SNAP[0] = 0, and no RELEASE is one. -/
def Obligations.PressRisesOnlyFromALowSnapshot : Prop :=
  ∀ (r : Bool) (snap : Byte), ∃ press release : Byte,
    (Pseudo.press r).expand = [.edge press] ∧ (Pseudo.release r).expand = [.edge release] ∧
    buttonRises press snap = !snap.getLsbD 0 ∧ buttonRises release snap = false ∧
    press.toNat = 2 * r.toNat + 1 ∧ release.toNat = 2 * r.toNat

/-! ### The step -/

/-- A step runs the operation its presented word decodes to, in the state without that turn. -/
def Obligations.StepRunsThePresentedOperation : Prop :=
  ∀ (s : State) (w : Word) (i : Instr) (rest : List Event), s.agenda = .op w :: rest → decode w = .instr i →
    step s = exec i { s with agenda := rest }

/-- A turn of the main line is its one next step: SLEEP_ENTER, ENTRY_STEP or TICK (42_tick_dispatcher.md R116, R119, R120). With
nothing presented it is the main line's turn: that is the model's choice (assumption log 5), as are the order of SLEEP_ENTER and
ENTRY_STEP where both are pending (assumption log 10) and that both run before INIT too (assumption log 23). -/
def Obligations.MainLineTakesItsOneStep : Prop :=
  ∀ s u : State, (s.agenda = [] ∧ u = s ∨ ∃ rest, s.agenda = .mainLine :: rest ∧ u = { s with agenda := rest }) →
    (u.sleepPending = true → step s = .next { u with asleep := true, sleepPending := false }) ∧
    (∀ p, u.sleepPending = false → u.entryPending = some p → step s = .next (entryStep p u)) ∧
    (u.sleepPending = false → u.entryPending = none → step s = exec .tick u)

/-- 60_exceptions.md R153: a refusal is final for the run. A run that comes to an illegal word, to any operation but INIT before
INIT, or to an ADV or a TICK whose carry SEC has no room for is refused with that word after any number of further steps,
whatever is presented after it (`rest`, an INIT included). -/
def Obligations.RefusedRunStaysRefused : Prop :=
  ∀ (k n : Nat) (s u : State) (w : Word) (rest : List Event), runSteps k s = .next u → u.agenda = .op w :: rest →
    (∀ why, decode w = .illegal why → runSteps (k + (n + 1)) s = .refused (.illegalWord w)) ∧
    (∀ i, decode w = .instr i → i ≠ .init → u.inited = false → runSteps (k + (n + 1)) s = .refused (.notInitialised w)) ∧
    (∀ dur, decode w = .instr (.adv dur) → u.inited = true → timed u.state = true → 1000 ≤ u.subsec.toNat + dur.toNat →
      2 ^ u.cfg.secW ≤ u.sec + 1 → runSteps (k + (n + 1)) s = .refused (.accOverflow w)) ∧
    (decode w = .instr .tick → u.inited = true → awake u →
      (u.state = .booting ∧ 1000 ≤ u.subsec.toNat + u.cfg.bootTickMs ∨
        u.state = .shuttingDown ∧ 1000 ≤ u.subsec.toNat + u.cfg.shutdownTickMs) →
      2 ^ u.cfg.secW ≤ u.sec + 1 → runSteps (k + (n + 1)) s = .refused (.accOverflow w))

/-- No step writes a parameter, and a step takes exactly the first turn off the agenda (assumption log 1 and 5). -/
def Obligations.StepKeepsTheParameters : Prop :=
  ∀ s t : State, step s = .next t → t.cfg = s.cfg ∧ t.agenda = s.agenda.tail

/-! ### INIT -/

/-- 70_reset_and_hazards.md R180 and R182: INIT, word 0xE000, answers from every state the reset table of 10_state.md R35. -/
def Obligations.InitGivesTheResetTable : Prop :=
  decode 0xE000#16 = .instr .init ∧
  ∀ s : State,
    exec .init s = .next
      { state := .poweredOff, subsec := 0#10, sec := 0, snap := s.cfg.snapshotReset, outPwr := false, outShdn := false,
        outLed := false, asleep := false, inited := true, sleepPending := false, entryPending := none,
        cfg := s.cfg, agenda := s.agenda }

/-- 70_reset_and_hazards.md R181: every operation other than INIT is refused with reason NOT_INITIALISED while INITED = 0. -/
def Obligations.OnlyInitRunsBeforeInit : Prop :=
  ∀ (i : Instr) (s : State), i.wf = true → i ≠ .init → s.inited = false →
    exec i s = .refused (.notInitialised (encode i))

/-- 70_reset_and_hazards.md R184: the first TICK after INIT puts the main line to sleep, whole or by its first half. -/
def Obligations.FirstTickAfterInitSleeps : Prop :=
  ∀ s t : State, exec .init s = .next t →
    (t.cfg.sleepRace = false → exec .tick t = .next { t with asleep := true }) ∧
    (t.cfg.sleepRace = true → exec .tick t = .next { t with sleepPending := true })

/-- 70_reset_and_hazards.md R187: with the button held at INIT, the first EDGE that sees it at 1 starts a boot if
SNAPSHOT_RESET[0] = 0, and no EDGE does while it stays at 1 if SNAPSHOT_RESET[0] = 1. -/
def Obligations.ButtonHeldAtInit : Prop :=
  ∀ (s : State) (p : Byte) (ps : List Byte) (rest : List Event),
    s.agenda = .op 0xE000#16 :: (edgeEvent p :: ps.map edgeEvent) ++ rest → (∀ q ∈ p :: ps, q.getLsbD 0 = true) →
    (s.cfg.snapshotReset.getLsbD 0 = false → ∃ t, runSteps 2 s = .next t ∧ t.state = .booting) ∧
    (s.cfg.snapshotReset.getLsbD 0 = true → ∃ t, runSteps (ps.length + 2) s = .next t ∧ t.state = .poweredOff)

/-! ### TRANS -/

/-- 40_state_machine_controller.md R82: TRANS performs `Transition` of its state directly, with no status element written. -/
def Obligations.TransPerformsTheTransition : Prop :=
  ∀ s : State,
    (s.inited = true →
      exec .transUnknown s = .next { s with state := .unknown } ∧
      exec .transBooting s = .next
        { s with state := .booting, subsec := 0#10, sec := 0, outPwr := true, outShdn := false, outLed := false } ∧
      exec .transIdle s = .next { s with state := .idle, outLed := true } ∧
      exec .transShuttingDown s = .next
        { s with state := .shuttingDown, subsec := 0#10, sec := 0, outShdn := true, outLed := false } ∧
      exec .transPoweredOff s = .next
        { s with state := .poweredOff, outPwr := false, outShdn := false, outLed := false }) ∧
    (s.inited = false →
      exec .transUnknown s = .refused (.notInitialised 0x6000#16) ∧
      exec .transBooting s = .refused (.notInitialised 0x6001#16) ∧
      exec .transIdle s = .refused (.notInitialised 0x6002#16) ∧
      exec .transShuttingDown s = .refused (.notInitialised 0x6003#16) ∧
      exec .transPoweredOff s = .refused (.notInitialised 0x6004#16))

/-- Every transition into `Booting` or `ShuttingDown`, by any operation, and every TRANS to one of them, re-entry included,
leaves both counters at zero (40_state_machine_controller.md R81, R89). -/
def Obligations.EnteringATimedStateClearsTheClock : Prop :=
  ∀ (i : Instr) (s t : State), exec i s = .next t → timed t.state = true →
    (t.state ≠ s.state ∨ i = .transBooting ∨ i = .transShuttingDown) → t.sec = 0 ∧ t.subsec = 0#10

/-- 60_exceptions.md R151: `Unknown` after INIT is the defect; a TICK that is not held goes on in it, no EDGE leaves it, INIT and
TRANS do. -/
def Obligations.UnknownIsLeftOnlyByInitOrTrans : Prop :=
  ∀ s : State, s.inited = true → s.state = .unknown →
    defect s = true ∧ (awake s → exec .tick s = .next s) ∧
    (∀ pins, exec (.edge pins) s = .next { s with snap := pins, asleep := false }) ∧
    (∀ (i : Instr) (t : State), exec i s = .next t → t.state ≠ .unknown →
      i = .init ∨ i = .transBooting ∨ i = .transIdle ∨ i = .transShuttingDown ∨ i = .transPoweredOff) ∧
    ∀ i ∈ [Instr.init, .transBooting, .transIdle, .transShuttingDown, .transPoweredOff],
      ∃ t, exec i s = .next t ∧ defect t = false

/-! ### ADV and the accumulator -/

/-- 41_timing_accumulator.md R101: ADV adds its duration to the clock of a timed state, with one carry where the sum reaches
1000, and changes nothing in any other state. -/
def Obligations.AdvAddsToTheClock : Prop :=
  ∀ (dur : BitVec 10) (s : State), dur.toNat ≤ 999 → s.subsec.toNat ≤ 999 →
    (s.inited = false → exec (.adv dur) s = .refused (.notInitialised (encode (.adv dur)))) ∧
    (s.inited = true → timed s.state = false → exec (.adv dur) s = .next s) ∧
    (s.inited = true → timed s.state = true → s.subsec.toNat + dur.toNat < 1000 →
      exec (.adv dur) s = .next { s with subsec := BitVec.ofNat 10 (s.subsec.toNat + dur.toNat) }) ∧
    (s.inited = true → timed s.state = true → 1000 ≤ s.subsec.toNat + dur.toNat → s.sec + 1 < 2 ^ s.cfg.secW →
      exec (.adv dur) s = .next
        { s with sec := s.sec + 1, subsec := BitVec.ofNat 10 (s.subsec.toNat + dur.toNat - 1000) }) ∧
    (s.inited = true → timed s.state = true → 1000 ≤ s.subsec.toNat + dur.toNat → s.sec + 1 = 2 ^ s.cfg.secW →
      exec (.adv dur) s = .refused (.accOverflow (encode (.adv dur))))

/-- A duration of 1000 or more has no legal word (30_encoding.md R65): its ADV is refused as that word, before anything else.
That the meaning refuses it as well as the decoder is the model's choice (assumption log 9). -/
def Obligations.TooLongAdvIsRefused : Prop :=
  ∀ (dur : BitVec 10) (s : State), 1000 ≤ dur.toNat →
    exec (.adv dur) s = .refused (.illegalWord (encode (.adv dur)))

/-- 41_timing_accumulator.md R105: `Advance` writes only SUBSEC and SEC. -/
def Obligations.AdvanceWritesOnlyTheClock : Prop :=
  ∀ (d : Nat) (s t : State), advance d s = some t → t = { s with subsec := t.subsec, sec := t.sec }

/-- 41_timing_accumulator.md R103: SEC does not wrap. A carry from 2^SEC_W - 1 is refused with reason ACC_OVERFLOW, in ADV and in
TICK; in a defined flow it never happens, since SEC stays within the bounds the rule names. -/
def Obligations.CarryPastSecIsRefused : Prop :=
  (∀ (dur : BitVec 10) (s : State), dur.toNat ≤ 999 → s.inited = true → timed s.state = true →
    1000 ≤ s.subsec.toNat + dur.toNat → s.sec = 2 ^ s.cfg.secW - 1 →
    exec (.adv dur) s = .refused (.accOverflow (encode (.adv dur)))) ∧
  (∀ s : State, s.inited = true → awake s → s.sec = 2 ^ s.cfg.secW - 1 →
    (s.state = .booting ∧ 1000 ≤ s.subsec.toNat + s.cfg.bootTickMs ∨
      s.state = .shuttingDown ∧ 1000 ≤ s.subsec.toNat + s.cfg.shutdownTickMs) →
    exec .tick s = .refused (.accOverflow 0x2000#16)) ∧
  ∀ s : State, DefinedInv s →
    (∀ w, step s ≠ .refused (.accOverflow w)) ∧
    (s.state = .booting → s.sec ≤ s.cfg.bootTimeout ∧ s.cfg.bootTimeout ≤ 2 ^ s.cfg.secW - 2) ∧
    (s.state = .shuttingDown →
      s.sec ≤ max (s.cfg.shutdownTimeout - 1) 0 ∧ max (s.cfg.shutdownTimeout - 1) 0 ≤ 2 ^ s.cfg.secW - 2)

/-- 41_timing_accumulator.md R102: after the calls ADV d1 … dn from a clear clock in one timed state, SEC is the sum divided by
1000 and SUBSEC its remainder, for as long as SEC can hold the quotient. -/
def Obligations.AccumulationLaw : Prop :=
  ∀ (s : State) (ds : List (BitVec 10)) (rest : List Event), (∀ d ∈ ds, d.toNat ≤ 999) →
    s.inited = true → timed s.state = true → s.sec = 0 → s.subsec = 0#10 →
    (ds.map BitVec.toNat).sum / 1000 < 2 ^ s.cfg.secW →
    s.agenda = (ds.map fun d => Event.op (encode (.adv d))) ++ rest →
    runSteps ds.length s = .next
      { s with sec := (ds.map BitVec.toNat).sum / 1000, subsec := BitVec.ofNat 10 ((ds.map BitVec.toNat).sum % 1000),
               agenda := rest }

/-! ### TICK -/

/-- 42_tick_dispatcher.md R111: TICK in `Booting` toggles the LED, advances the clock by BOOT_TICK_MS and, where SEC is then at
least BOOT_TIMEOUT, moves to `Idle` with the LED on; under ENTRY_RACE the transition stops after its first half (R120). Where
SEC has no room for the sum, TICK is refused. -/
def Obligations.TickInBooting : Prop :=
  ∀ s u : State, Inv s → awake s → s.state = .booting → u = { addClock s.cfg.bootTickMs s with outLed := !s.outLed } →
    (s.inited = false → exec .tick s = .refused (.notInitialised 0x2000#16)) ∧
    (s.inited = true → 2 ^ s.cfg.secW ≤ u.sec → exec .tick s = .refused (.accOverflow 0x2000#16)) ∧
    (s.inited = true → u.sec < 2 ^ s.cfg.secW → u.sec < s.cfg.bootTimeout → exec .tick s = .next u) ∧
    (s.inited = true → u.sec < 2 ^ s.cfg.secW → s.cfg.bootTimeout ≤ u.sec → s.cfg.entryRace = false →
      exec .tick s = .next { u with state := .idle, outLed := true }) ∧
    (s.inited = true → u.sec < 2 ^ s.cfg.secW → s.cfg.bootTimeout ≤ u.sec → s.cfg.entryRace = true →
      exec .tick s = .next { u with state := .idle, entryPending := some .idle })

/-- 42_tick_dispatcher.md R112: TICK in `ShuttingDown`, the same with SHUTDOWN_TICK_MS, SHUTDOWN_TIMEOUT and `PoweredOff`, whose
entry leaves all lines at 0; no input shortens the shutdown. -/
def Obligations.TickInShuttingDown : Prop :=
  ∀ s u : State, Inv s → awake s → s.state = .shuttingDown → u = { addClock s.cfg.shutdownTickMs s with outLed := !s.outLed } →
    (s.inited = false → exec .tick s = .refused (.notInitialised 0x2000#16)) ∧
    (s.inited = true → 2 ^ s.cfg.secW ≤ u.sec → exec .tick s = .refused (.accOverflow 0x2000#16)) ∧
    (s.inited = true → u.sec < 2 ^ s.cfg.secW → u.sec < s.cfg.shutdownTimeout → exec .tick s = .next u) ∧
    (s.inited = true → u.sec < 2 ^ s.cfg.secW → s.cfg.shutdownTimeout ≤ u.sec → s.cfg.entryRace = false →
      exec .tick s = .next { u with state := .poweredOff, outPwr := false, outShdn := false, outLed := false }) ∧
    (s.inited = true → u.sec < 2 ^ s.cfg.secW → s.cfg.shutdownTimeout ≤ u.sec → s.cfg.entryRace = true →
      exec .tick s = .next { u with state := .poweredOff, entryPending := some (.poweredOff 0) }) ∧
    (s.inited = true → ∀ pins, exec (.edge pins) s = .next { s with snap := pins, asleep := false })

/-- 42_tick_dispatcher.md R113 and R114: TICK in `Idle` or `PoweredOff` enters the low-power sleep (by its first half under
SLEEP_RACE) and changes nothing else; the main line then waits; the first TICK after INIT is of this kind. -/
def Obligations.TickEntersSleep : Prop :=
  (∀ s : State, awake s → (s.state = .idle ∨ s.state = .poweredOff) →
    (s.inited = false → exec .tick s = .refused (.notInitialised 0x2000#16)) ∧
    (s.inited = true → s.cfg.sleepRace = false →
      exec .tick s = .next { s with asleep := true } ∧ ¬ awake { s with asleep := true }) ∧
    (s.inited = true → s.cfg.sleepRace = true →
      exec .tick s = .next { s with sleepPending := true } ∧ ¬ awake { s with sleepPending := true })) ∧
  ∀ s t : State, exec .init s = .next t → t.inited = true ∧ awake t ∧ t.state = .poweredOff

/-- TICK in `Unknown` blinks, ends with the LED as it was, and the main line keeps ticking for ever; no EDGE leaves the state
(42_tick_dispatcher.md R115). That a step with nothing presented is the main line's turn is the model's choice (assumption log
5). -/
def Obligations.TickInUnknownBlinksForEver : Prop :=
  ∀ s : State, awake s → s.state = .unknown →
    errorBlink s = [(!s.outLed, s.cfg.errShortMs), (s.outLed, s.cfg.errLongMs)] ∧
    (s.inited = false → exec .tick s = .refused (.notInitialised 0x2000#16)) ∧
    (s.inited = true →
      exec .tick s = .next s ∧ (∀ pins, exec (.edge pins) s = .next { s with snap := pins, asleep := false }) ∧
      (s.agenda = [] → ∀ k, runSteps k s = .next s))

/-- While ASLEEP = 1, SLEEP_PENDING = 1 or ENTRY_PENDING is not none, TICK has no step (42_tick_dispatcher.md R116). That such a
turn passes and changes nothing is the model's choice (assumption log 6). -/
def Obligations.TickHoldsWhileTheMainLineWaits : Prop :=
  ∀ s : State, s.inited = true → ¬ awake s → exec .tick s = .next s

/-- 42_tick_dispatcher.md R117: from an entry into a timed state the k-th TICK leaves SEC = floor(k × p / 1000) and
SUBSEC = (k × p) mod 1000, and the TICK that transitions is the max(1, ceil(1000 × limit / p))-th. With nothing presented each
step is a TICK of the main line: that is the model's choice (assumption log 5). -/
def Obligations.TicksToATimeout : Prop :=
  ∀ s : State, Inv s → s.inited = true → awake s → s.agenda = [] → s.sec = 0 → s.subsec = 0#10 →
    (s.state = .booting →
      (∀ k, k < ticksTo s.cfg.bootTimeout s.cfg.bootTickMs →
        runSteps k s = .next
          { s with sec := k * s.cfg.bootTickMs / 1000, subsec := BitVec.ofNat 10 (k * s.cfg.bootTickMs % 1000),
                   outLed := s.outLed ^^ decide (k % 2 = 1) }) ∧
      ∀ n, n = ticksTo s.cfg.bootTimeout s.cfg.bootTickMs → s.cfg.entryRace = false →
        runSteps n s = .next
          { s with state := .idle, sec := n * s.cfg.bootTickMs / 1000,
                   subsec := BitVec.ofNat 10 (n * s.cfg.bootTickMs % 1000), outLed := true }) ∧
    (s.state = .shuttingDown →
      (∀ k, k < ticksTo s.cfg.shutdownTimeout s.cfg.shutdownTickMs →
        runSteps k s = .next
          { s with sec := k * s.cfg.shutdownTickMs / 1000, subsec := BitVec.ofNat 10 (k * s.cfg.shutdownTickMs % 1000),
                   outLed := s.outLed ^^ decide (k % 2 = 1) }) ∧
      ∀ n, n = ticksTo s.cfg.shutdownTimeout s.cfg.shutdownTickMs → s.cfg.entryRace = false →
        runSteps n s = .next
          { s with state := .poweredOff, sec := n * s.cfg.shutdownTickMs / 1000,
                   subsec := BitVec.ofNat 10 (n * s.cfg.shutdownTickMs % 1000),
                   outPwr := false, outShdn := false, outLed := false })

/-- Whatever samples arrive during a shutdown, and whatever the host does, power is removed at the timeout's TICK and not
before (42_tick_dispatcher.md R112, R117; 60_exceptions.md R170). -/
def Obligations.ShutdownEndsWhateverTheLinesDo : Prop :=
  ∀ (s : State) (es : List Event) (n : Nat), Inv s → s.inited = true → awake s → s.state = .shuttingDown →
    s.sec = 0 → s.subsec = 0#10 → s.cfg.entryRace = false →
    (∀ e ∈ es, e = .op 0x2000#16 ∨ ∃ pins, e = edgeEvent pins) →
    s.agenda = es ++ [.op 0x2000#16] → n = ticksTo s.cfg.shutdownTimeout s.cfg.shutdownTickMs →
    es.count (.op 0x2000#16) < n →
    (∃ t, runSteps es.length s = .next t ∧ t.state = .shuttingDown ∧ t.outPwr = s.outPwr ∧ t.outShdn = s.outShdn) ∧
    (es.count (.op 0x2000#16) + 1 = n →
      ∃ t, runSteps (es.length + 1) s = .next t ∧ t.state = .poweredOff ∧ t.outPwr = false ∧ t.outShdn = false)

/-- A quiescent main line does nothing by itself and every element survives (42_tick_dispatcher.md R118, 60_exceptions.md
R168); the next EDGE wakes it. The spec gives the waiting main line no step: that a step with nothing presented is its turn
(assumption log 5) and that its held TICK passes (assumption log 6) are the model's choices. -/
def Obligations.QuiescentUntilSomethingIsPresented : Prop :=
  ∀ s : State, s.inited = true → quiescent s = true → s.agenda = [] →
    (∀ k, runSteps k s = .next s) ∧ ∀ pins, ∃ t, exec (.edge pins) s = .next t ∧ awake t

/-! ### EDGE -/

/-- 43_edge_detector.md R132: a line rises when its bit changed and is now 1; the previous sample is the last EDGE's, or
SNAPSHOT_RESET after INIT. -/
def Obligations.RisingMeansChangedAndSet : Prop :=
  (∀ pins snap : Byte, rising pins snap = pins &&& ~~~snap) ∧
  (∀ (pins snap : Byte) (k : Nat), k < 8 → (rising pins snap).getLsbD k = (pins.getLsbD k && !snap.getLsbD k)) ∧
  (∀ (pins : Byte) (s t : State), exec (.edge pins) s = .next t → t.snap = pins) ∧
  ∀ s t : State, exec .init s = .next t → t.snap = t.cfg.snapshotReset

/-- 43_edge_detector.md R136: a button rising edge in `PoweredOff` performs the transition to `Booting`. -/
def Obligations.ButtonInPoweredOffBoots : Prop :=
  ∀ (s : State) (pins : Byte), s.inited = true → s.state = .poweredOff → pins.getLsbD 0 = true →
    s.snap.getLsbD 0 = false →
    exec (.edge pins) s = .next
      { s with snap := pins, asleep := false, state := .booting, subsec := 0#10, sec := 0, outPwr := true,
               outShdn := false, outLed := false }

/-- 43_edge_detector.md R135: a button rising edge in `Idle` performs the transition to `ShuttingDown`; OUT_PWR keeps its level,
which is 1 in a defined flow. -/
def Obligations.ButtonInIdleShutsDown : Prop :=
  ∀ (s : State) (pins : Byte), s.inited = true → s.state = .idle → pins.getLsbD 0 = true → s.snap.getLsbD 0 = false →
    exec (.edge pins) s = .next
      { s with snap := pins, asleep := false, state := .shuttingDown, subsec := 0#10, sec := 0, outShdn := true,
               outLed := false } ∧
    (DefinedInv s → s.cfg.entryRace = false → s.outPwr = true)

/-- 43_edge_detector.md R133: a host-ready rising edge in `Booting` sets SEC to BOOT_TIMEOUT and does nothing else; the next
TICK transitions. -/
def Obligations.HostReadyInBootingSetsSec : Prop :=
  ∀ (s u : State) (pins : Byte), s.inited = true → s.cfg.Legal → s.state = .booting → pins.getLsbD 1 = true →
    s.snap.getLsbD 1 = false → u = { s with snap := pins, asleep := false, sec := s.cfg.bootTimeout } →
    exec (.edge pins) s = .next u ∧
    (s.subsec.toNat ≤ 999 → s.sleepPending = false → s.entryPending = none →
      ∃ t, exec .tick u = .next t ∧ t.state = .idle)

/-- 43_edge_detector.md R134, R137 and R139: host-ready rising outside `Booting`, the button rising outside `Idle` and
`PoweredOff`, falling edges, edges on unrelated lines and an unchanged sample change only SNAP and ASLEEP. -/
def Obligations.OtherEdgesOnlyRecordAndWake : Prop :=
  ∀ (s : State) (pins : Byte), s.inited = true →
    ¬ (s.state = .booting ∧ pins.getLsbD 1 = true ∧ s.snap.getLsbD 1 = false) →
    ¬ ((s.state = .idle ∨ s.state = .poweredOff) ∧ pins.getLsbD 0 = true ∧ s.snap.getLsbD 0 = false) →
    exec (.edge pins) s = .next { s with snap := pins, asleep := false }

/-- 43_edge_detector.md R131: every EDGE ends the main line's sleep, and with no edge at all the next TICK in `Idle` or
`PoweredOff` puts it back (by its first half under SLEEP_RACE). -/
def Obligations.EveryEdgeWakesTheMainLine : Prop :=
  ∀ s : State, s.inited = true →
    (∀ pins, ∃ t, exec (.edge pins) s = .next t ∧ t.asleep = false) ∧
    exec (.edge s.snap) s = .next { s with asleep := false } ∧
    ((s.state = .idle ∨ s.state = .poweredOff) → s.sleepPending = false → s.entryPending = none →
      (s.cfg.sleepRace = false → exec .tick { s with asleep := false } = .next { s with asleep := true }) ∧
      (s.cfg.sleepRace = true →
        exec .tick { s with asleep := false } = .next { s with asleep := false, sleepPending := true }))

/-- 70_reset_and_hazards.md R190: a host-ready rising edge in `Booting` only sets SEC; the next TICK toggles the LED and advances
the clock before it moves to `Idle` with OUT_LED = 1. -/
def Obligations.HostReadyEndsTheBootAtTheNextTick : Prop :=
  ∀ (s : State) (pins : Byte), Inv s → s.inited = true → s.state = .booting → s.sleepPending = false →
    s.entryPending = none → s.cfg.entryRace = false → pins.getLsbD 1 = true → s.snap.getLsbD 1 = false →
    ∃ u, exec (.edge pins) s = .next u ∧ u.state = .booting ∧ u.sec = s.cfg.bootTimeout ∧ u.subsec = s.subsec ∧
      exec .tick u = .next { addClock s.cfg.bootTickMs u with state := .idle, outLed := true }

/-- 43_edge_detector.md R140: a bounce cannot cause two transitions: however many samples arrive, STATE changes at most once
before the next TICK. -/
def Obligations.BounceChangesStateAtMostOnce : Prop :=
  ∀ (s : State) (ps : List Byte) (rest : List Event) (j k : Nat), s.inited = true →
    s.agenda = ps.map edgeEvent ++ rest → j ≤ k → k ≤ ps.length →
    ∃ a b, runSteps j s = .next a ∧ runSteps k s = .next b ∧
      (a.state ≠ s.state → (a.state = .booting ∨ a.state = .shuttingDown) ∧ b.state = a.state)

/-! ### The races -/

/-- 42_tick_dispatcher.md R119: under SLEEP_RACE the sleep tick is two steps, any number of EDGE may come between them, and the
main line goes to sleep after them all and then waits. -/
def Obligations.SplitSleepSleepsAfterTheEdges : Prop :=
  ∀ (s : State) (ps : List Byte) (rest : List Event), s.inited = true → awake s → s.cfg.sleepRace = true →
    (s.state = .idle ∨ s.state = .poweredOff) →
    s.agenda = .op 0x2000#16 :: (ps.map edgeEvent ++ .mainLine :: .op 0x2000#16 :: rest) →
    step s = .next
      { s with sleepPending := true, agenda := ps.map edgeEvent ++ .mainLine :: .op 0x2000#16 :: rest } ∧
    (∀ (u : State) (pins : Byte), u.inited = true → u.sleepPending = true →
      ∃ v, exec (.edge pins) u = .next v ∧ v.sleepPending = true ∧ v.asleep = false) ∧
    ∃ t, runSteps (ps.length + 2) s = .next t ∧ t.asleep = true ∧ t.sleepPending = false ∧
      t.agenda = .op 0x2000#16 :: rest ∧ step t = .next { t with agenda := rest }

/-- ENTRY_STEP, as a turn of the main line that other turns follow or with nothing presented, performs one write of the entry
action and moves ENTRY_PENDING on, and EDGE neither reads nor writes ENTRY_PENDING (42_tick_dispatcher.md R120). That a step
with nothing presented is the main line's turn is the model's choice (assumption log 5), as is that ENTRY_STEP runs before INIT
too (assumption log 23). -/
def Obligations.EntryStepPerformsOneWrite : Prop :=
  (∀ s u : State, (s.agenda = [] ∧ u = s ∨ ∃ rest, s.agenda = .mainLine :: rest ∧ u = { s with agenda := rest }) →
    s.sleepPending = false →
    (s.entryPending = some .idle → step s = .next { u with outLed := true, entryPending := none }) ∧
    (s.entryPending = some (.poweredOff 0) →
      step s = .next { u with outPwr := false, entryPending := some (.poweredOff 1) }) ∧
    (s.entryPending = some (.poweredOff 1) →
      step s = .next { u with outLed := false, entryPending := some (.poweredOff 2) }) ∧
    (s.entryPending = some (.poweredOff 2) → step s = .next { u with outShdn := false, entryPending := none })) ∧
  ∀ (s t : State) (pins : Byte) (e : Option EntryPos), exec (.edge pins) s = .next t →
    exec (.edge pins) { s with entryPending := e } = .next { t with entryPending := e }

/-- A split timeout transition with no EDGE in between ends as the whole one (42_tick_dispatcher.md R120, R192). With nothing
presented each step is the main line's: that is the model's choice (assumption log 5). -/
def Obligations.SplitTimeoutEndsAsTheWholeOne : Prop :=
  ∀ s t : State, Inv s → s.inited = true → awake s → s.agenda = [] → s.cfg.entryRace = true →
    exec .tick { s with cfg := { s.cfg with entryRace := false } } = .next t →
    (s.state = .booting → t.state = .idle → runSteps 2 s = .next { t with cfg := s.cfg }) ∧
    (s.state = .shuttingDown → t.state = .poweredOff → runSteps 4 s = .next { t with cfg := s.cfg })

/-! ### Invariants and whole-machine rules -/

/-- Every step keeps the invariant, whatever is presented: SUBSEC at most 999, SEC within its width, the pending elements
consistent with the parameters and with each other. -/
def Obligations.StepKeepsTheInvariant : Prop := ∀ s t : State, Inv s → step s = .next t → Inv t

/-- The reset state meets both invariants. That the parameters stand at the defaults there is assumption log 2 and 3. -/
def Obligations.ResetMeetsTheInvariants : Prop := Inv State.reset ∧ DefinedInv State.reset

/-- Every step of a defined flow keeps the invariant of defined flows: STATE never `Unknown` (10_state.md R23), SEC within its
bounds (R25), the lines those of the state (40_state_machine_controller.md R91). -/
def Obligations.DefinedFlowKeepsItsInvariant : Prop := ∀ s t : State, DefinedInv s → step s = .next t → DefinedInv t

/-- A defined flow is never refused (41_timing_accumulator.md R103, 60_exceptions.md R154), so a run of any number of steps
answers a next state. Where the main line waits and nothing is presented the spec gives no step: that the run goes on there is
the model's choice, since an empty agenda is the main line's turn (assumption log 5) and a held TICK passes (assumption log
6). -/
def Obligations.DefinedFlowAlwaysGoesOn : Prop :=
  ∀ (s : State) (k : Nat), DefinedInv s → ∃ t, runSteps k s = .next t ∧ DefinedInv t

/-- INIT starts a defined flow from any state, an undefined one included. -/
def Obligations.InitStartsADefinedFlow : Prop :=
  ∀ (s : State) (rest : List Event), s.cfg.Legal → s.agenda = .op 0xE000#16 :: rest →
    rest.all Event.inDefinedFlow = true → ∃ t, step s = .next t ∧ DefinedInv t

/-- 40_state_machine_controller.md R90: in a defined flow STATE changes only along the edges of the rule's table. -/
def Obligations.DefinedFlowTransitions : Prop :=
  ∀ s t : State, DefinedInv s → step s = .next t → t.state ≠ s.state →
    (t.state = .poweredOff ∧ ∃ rest, s.agenda = .op 0xE000#16 :: rest) ∨
    (∃ pins rest, s.agenda = edgeEvent pins :: rest ∧ pins.getLsbD 0 = true ∧ s.snap.getLsbD 0 = false ∧
      (s.state = .poweredOff ∧ t.state = .booting ∨ s.state = .idle ∧ t.state = .shuttingDown)) ∨
    ((s.agenda = [] ∨ ∃ rest, s.agenda = .mainLine :: rest ∨ s.agenda = .op 0x2000#16 :: rest) ∧
      (s.state = .booting ∧ t.state = .idle ∧ s.cfg.bootTimeout ≤ t.sec ∨
        s.state = .shuttingDown ∧ t.state = .poweredOff ∧ s.cfg.shutdownTimeout ≤ t.sec))

/-- 10_state.md R36: for each element, the operations that can write it. -/
def Obligations.WritersOfEachElement : Prop :=
  ∀ (i : Instr) (s t : State), exec i s = .next t →
    (t.state ≠ s.state →
      i = .init ∨ i ∈ [.transUnknown, .transBooting, .transIdle, .transShuttingDown, .transPoweredOff] ∨
      (i = .tick ∧ (s.state = .booting ∧ t.state = .idle ∨ s.state = .shuttingDown ∧ t.state = .poweredOff)) ∨
      (∃ pins, i = .edge pins) ∧
        (s.state = .poweredOff ∧ t.state = .booting ∨ s.state = .idle ∧ t.state = .shuttingDown)) ∧
    (t.subsec ≠ s.subsec →
      i = .init ∨ (i = .tick ∨ ∃ dur, i = .adv dur) ∧ timed s.state = true ∨
      (∃ pins, i = .edge pins) ∧ timed s.state = false ∧ timed t.state = true ∨ i = .transBooting ∨ i = .transShuttingDown) ∧
    (t.sec ≠ s.sec →
      i = .init ∨ (i = .tick ∨ ∃ dur, i = .adv dur) ∧ timed s.state = true ∨
      (∃ pins, i = .edge pins) ∧
        (timed s.state = false ∧ timed t.state = true ∨ s.state = .booting ∧ t.sec = s.cfg.bootTimeout % 2 ^ s.cfg.secW) ∨
      i = .transBooting ∨ i = .transShuttingDown) ∧
    (t.snap ≠ s.snap → i = .init ∨ ∃ pins, i = .edge pins) ∧
    (t.outPwr ≠ s.outPwr →
      i = .init ∨ i = .tick ∧ t.state = .poweredOff ∨ (∃ pins, i = .edge pins) ∧ t.state = .booting ∨
      i = .transBooting ∨ i = .transPoweredOff) ∧
    (t.outShdn ≠ s.outShdn →
      i = .init ∨ i = .tick ∧ t.state = .poweredOff ∨
      (∃ pins, i = .edge pins) ∧ (t.state = .booting ∨ t.state = .shuttingDown) ∨
      i = .transBooting ∨ i = .transShuttingDown ∨ i = .transPoweredOff) ∧
    (t.outLed ≠ s.outLed →
      i = .init ∨ i = .tick ∨ (∃ pins, i = .edge pins) ∧ (t.state = .booting ∨ t.state = .shuttingDown) ∨
      i = .transBooting ∨ i = .transIdle ∨ i = .transShuttingDown ∨ i = .transPoweredOff) ∧
    (t.asleep ≠ s.asleep →
      i = .init ∧ t.asleep = false ∨ i = .tick ∧ t.asleep = true ∧ (s.state = .idle ∨ s.state = .poweredOff) ∨
      (∃ pins, i = .edge pins) ∧ t.asleep = false) ∧
    (t.inited ≠ s.inited → i = .init) ∧
    (t.sleepPending ≠ s.sleepPending → i = .init ∨ i = .tick ∧ s.cfg.sleepRace = true) ∧
    (t.entryPending ≠ s.entryPending → i = .init ∨ i = .tick ∧ s.cfg.entryRace = true)

/-- 10_state.md R26: outside a timed state the clock is inert: only INIT and a transition into a timed state change it, and
they clear it; nothing an operation does depends on it, and it is not part of the observation. -/
def Obligations.FrozenClockIsInert : Prop :=
  ∀ (i : Instr) (s : State) (c : Nat) (m : BitVec 10), timed s.state = false →
    (∀ r, exec i s = .refused r → exec i { s with sec := c, subsec := m } = .refused r) ∧
    (∀ t, exec i s = .next t →
      (∃ t', exec i { s with sec := c, subsec := m } = .next t' ∧ t = { t' with sec := t.sec, subsec := t.subsec } ∧
        (timed t.state = true → t' = t)) ∧
      (t.sec = s.sec ∧ t.subsec = s.subsec ∨ (i = .init ∨ timed t.state = true) ∧ t.sec = 0 ∧ t.subsec = 0#10)) ∧
    (∀ t, step s = .next t → t.sec = s.sec ∧ t.subsec = s.subsec ∨ t.sec = 0 ∧ t.subsec = 0#10) ∧
    observe { s with sec := c, subsec := m } = observe s

/-! ### Observation and timing -/

/-- 10_state.md R34: the fields of the observation words. -/
def Obligations.ObservationWordsLayout : Prop :=
  ∀ s : State,
    (statusWord s).extractLsb' 0 3 = s.state.code ∧ (statusWord s).getLsbD 3 = s.outPwr ∧
    (statusWord s).getLsbD 4 = s.outShdn ∧ (statusWord s).getLsbD 5 = s.outLed ∧ (statusWord s).getLsbD 6 = s.asleep ∧
    (statusWord s).getLsbD 7 = s.inited ∧ (statusWord s).getLsbD 8 = s.sleepPending ∧
    (statusWord s).getLsbD 9 = s.entryPending.isSome ∧ (statusWord s).extractLsb' 10 6 = 0#6 ∧
    (s.cfg.secW ≤ 22 → s.sec < 2 ^ s.cfg.secW →
      ∃ c, clockWord s = some c ∧ c.extractLsb' 0 10 = s.subsec ∧ (c.extractLsb' 10 s.cfg.secW).toNat = s.sec ∧
        ∀ k, 10 + s.cfg.secW ≤ k → c.getLsbD k = false) ∧
    snapshotWord s = s.snap

/-- The nominal durations of 70_reset_and_hazards.md R196, and with the default constants the 200 ticks of a boot and the 80 of
a shutdown. -/
def Obligations.NominalDurations : Prop :=
  (∀ s : State,
    (s.state = .booting → nominalDuration .tick s = .ms s.cfg.bootTickMs) ∧
    (s.state = .shuttingDown → nominalDuration .tick s = .ms s.cfg.shutdownTickMs) ∧
    (s.state = .unknown → nominalDuration .tick s = .ms (s.cfg.errShortMs + s.cfg.errLongMs)) ∧
    (s.state = .idle ∨ s.state = .poweredOff → nominalDuration .tick s = .untilEdge) ∧
    ∀ dur, nominalDuration (.adv dur) s = .ms dur.toNat) ∧
  ticksTo Params.reference.bootTimeout Params.reference.bootTickMs = 200 ∧
  ticksTo Params.reference.shutdownTimeout Params.reference.shutdownTickMs = 80
end

