-- ==== Sys2Proof/Laws/Decode.lean ====
section
/-! SUPPORT. A word put together again from its fields, and the byte form of a word. -/

namespace Sys2Proof

/-- Two neighbouring fields of a word are the field they span. -/
theorem append_fields {k : Nat} (w : BitVec k) (at_ lo hi : Nat) :
    w.extractLsb' (at_ + lo) hi ++ w.extractLsb' at_ lo = w.extractLsb' at_ (hi + lo) :=
  BitVec.extractLsb'_append_extractLsb'_eq_extractLsb' rfl

/-- OP and the rest of the word. -/
theorem word_eq_op_rest (w : Word) : w = opField w ++ w.extractLsb' 0 13 := by
  have h := append_fields w 0 13 3
  rw [BitVec.extractLsb'_eq_self] at h
  exact h.symm

/-- The fields of format E. -/
theorem rest_eq_E (w : Word) : w.extractLsb' 0 13 = w.extractLsb' 8 5 ++ w.extractLsb' 0 8 := (append_fields w 0 8 5).symm

/-- The fields of format S. -/
theorem rest_eq_S (w : Word) : w.extractLsb' 0 13 = w.extractLsb' 3 10 ++ w.extractLsb' 0 3 := (append_fields w 0 3 10).symm

/-- The fields of format A. -/
theorem rest_eq_A (w : Word) : w.extractLsb' 0 13 = w.extractLsb' 10 3 ++ w.extractLsb' 0 10 :=
  (append_fields w 0 10 3).symm

/-- A word is its high byte and its low byte. -/
theorem word_eq_bytes (w : Word) : w.extractLsb' 8 8 ++ w.extractLsb' 0 8 = w := by
  have h := append_fields w 0 8 8
  rwa [BitVec.extractLsb'_eq_self] at h

end Sys2Proof
end

