-- ==== Sys2Proof/Laws/State.lean ====
section
/-! SUPPORT. What each update of the state writes and what it leaves: one lemma per field per update, so that no proof unfolds
a record update. -/

namespace Sys2Proof.Machine

/-! ### setState -/

@[simp] theorem setState_state (st : SupervisorState) (s : State) : (setState st s).state = st := rfl
@[simp] theorem setState_subsec (st : SupervisorState) (s : State) : (setState st s).subsec = s.subsec := rfl
@[simp] theorem setState_sec (st : SupervisorState) (s : State) : (setState st s).sec = s.sec := rfl
@[simp] theorem setState_snap (st : SupervisorState) (s : State) : (setState st s).snap = s.snap := rfl
@[simp] theorem setState_outPwr (st : SupervisorState) (s : State) : (setState st s).outPwr = s.outPwr := rfl
@[simp] theorem setState_outShdn (st : SupervisorState) (s : State) : (setState st s).outShdn = s.outShdn := rfl
@[simp] theorem setState_outLed (st : SupervisorState) (s : State) : (setState st s).outLed = s.outLed := rfl
@[simp] theorem setState_asleep (st : SupervisorState) (s : State) : (setState st s).asleep = s.asleep := rfl
@[simp] theorem setState_inited (st : SupervisorState) (s : State) : (setState st s).inited = s.inited := rfl
@[simp] theorem setState_sleepPending (st : SupervisorState) (s : State) : (setState st s).sleepPending = s.sleepPending := rfl
@[simp] theorem setState_entryPending (st : SupervisorState) (s : State) : (setState st s).entryPending = s.entryPending := rfl
@[simp] theorem setState_cfg (st : SupervisorState) (s : State) : (setState st s).cfg = s.cfg := rfl
@[simp] theorem setState_agenda (st : SupervisorState) (s : State) : (setState st s).agenda = s.agenda := rfl

/-! ### clearClock -/

@[simp] theorem clearClock_state (s : State) : (clearClock s).state = s.state := rfl
@[simp] theorem clearClock_subsec (s : State) : (clearClock s).subsec = 0#10 := rfl
@[simp] theorem clearClock_sec (s : State) : (clearClock s).sec = 0 := rfl
@[simp] theorem clearClock_snap (s : State) : (clearClock s).snap = s.snap := rfl
@[simp] theorem clearClock_outPwr (s : State) : (clearClock s).outPwr = s.outPwr := rfl
@[simp] theorem clearClock_outShdn (s : State) : (clearClock s).outShdn = s.outShdn := rfl
@[simp] theorem clearClock_outLed (s : State) : (clearClock s).outLed = s.outLed := rfl
@[simp] theorem clearClock_asleep (s : State) : (clearClock s).asleep = s.asleep := rfl
@[simp] theorem clearClock_inited (s : State) : (clearClock s).inited = s.inited := rfl
@[simp] theorem clearClock_sleepPending (s : State) : (clearClock s).sleepPending = s.sleepPending := rfl
@[simp] theorem clearClock_entryPending (s : State) : (clearClock s).entryPending = s.entryPending := rfl
@[simp] theorem clearClock_cfg (s : State) : (clearClock s).cfg = s.cfg := rfl
@[simp] theorem clearClock_agenda (s : State) : (clearClock s).agenda = s.agenda := rfl

/-! ### setSec -/

@[simp] theorem setSec_state (v : Nat) (s : State) : (setSec v s).state = s.state := rfl
@[simp] theorem setSec_subsec (v : Nat) (s : State) : (setSec v s).subsec = s.subsec := rfl
@[simp] theorem setSec_sec (v : Nat) (s : State) : (setSec v s).sec = v % 2 ^ s.cfg.secW := rfl
@[simp] theorem setSec_snap (v : Nat) (s : State) : (setSec v s).snap = s.snap := rfl
@[simp] theorem setSec_outPwr (v : Nat) (s : State) : (setSec v s).outPwr = s.outPwr := rfl
@[simp] theorem setSec_outShdn (v : Nat) (s : State) : (setSec v s).outShdn = s.outShdn := rfl
@[simp] theorem setSec_outLed (v : Nat) (s : State) : (setSec v s).outLed = s.outLed := rfl
@[simp] theorem setSec_asleep (v : Nat) (s : State) : (setSec v s).asleep = s.asleep := rfl
@[simp] theorem setSec_inited (v : Nat) (s : State) : (setSec v s).inited = s.inited := rfl
@[simp] theorem setSec_sleepPending (v : Nat) (s : State) : (setSec v s).sleepPending = s.sleepPending := rfl
@[simp] theorem setSec_entryPending (v : Nat) (s : State) : (setSec v s).entryPending = s.entryPending := rfl
@[simp] theorem setSec_cfg (v : Nat) (s : State) : (setSec v s).cfg = s.cfg := rfl
@[simp] theorem setSec_agenda (v : Nat) (s : State) : (setSec v s).agenda = s.agenda := rfl

/-! ### toggleLed -/

@[simp] theorem toggleLed_state (s : State) : (toggleLed s).state = s.state := rfl
@[simp] theorem toggleLed_subsec (s : State) : (toggleLed s).subsec = s.subsec := rfl
@[simp] theorem toggleLed_sec (s : State) : (toggleLed s).sec = s.sec := rfl
@[simp] theorem toggleLed_snap (s : State) : (toggleLed s).snap = s.snap := rfl
@[simp] theorem toggleLed_outPwr (s : State) : (toggleLed s).outPwr = s.outPwr := rfl
@[simp] theorem toggleLed_outShdn (s : State) : (toggleLed s).outShdn = s.outShdn := rfl
@[simp] theorem toggleLed_outLed (s : State) : (toggleLed s).outLed = !s.outLed := rfl
@[simp] theorem toggleLed_asleep (s : State) : (toggleLed s).asleep = s.asleep := rfl
@[simp] theorem toggleLed_inited (s : State) : (toggleLed s).inited = s.inited := rfl
@[simp] theorem toggleLed_sleepPending (s : State) : (toggleLed s).sleepPending = s.sleepPending := rfl
@[simp] theorem toggleLed_entryPending (s : State) : (toggleLed s).entryPending = s.entryPending := rfl
@[simp] theorem toggleLed_cfg (s : State) : (toggleLed s).cfg = s.cfg := rfl
@[simp] theorem toggleLed_agenda (s : State) : (toggleLed s).agenda = s.agenda := rfl

/-! ### wake -/

@[simp] theorem wake_state (s : State) : (wake s).state = s.state := rfl
@[simp] theorem wake_subsec (s : State) : (wake s).subsec = s.subsec := rfl
@[simp] theorem wake_sec (s : State) : (wake s).sec = s.sec := rfl
@[simp] theorem wake_snap (s : State) : (wake s).snap = s.snap := rfl
@[simp] theorem wake_outPwr (s : State) : (wake s).outPwr = s.outPwr := rfl
@[simp] theorem wake_outShdn (s : State) : (wake s).outShdn = s.outShdn := rfl
@[simp] theorem wake_outLed (s : State) : (wake s).outLed = s.outLed := rfl
@[simp] theorem wake_asleep (s : State) : (wake s).asleep = false := rfl
@[simp] theorem wake_inited (s : State) : (wake s).inited = s.inited := rfl
@[simp] theorem wake_sleepPending (s : State) : (wake s).sleepPending = s.sleepPending := rfl
@[simp] theorem wake_entryPending (s : State) : (wake s).entryPending = s.entryPending := rfl
@[simp] theorem wake_cfg (s : State) : (wake s).cfg = s.cfg := rfl
@[simp] theorem wake_agenda (s : State) : (wake s).agenda = s.agenda := rfl

/-! ### recordSample -/

@[simp] theorem recordSample_state (pins : Byte) (s : State) : (recordSample pins s).state = s.state := rfl
@[simp] theorem recordSample_subsec (pins : Byte) (s : State) : (recordSample pins s).subsec = s.subsec := rfl
@[simp] theorem recordSample_sec (pins : Byte) (s : State) : (recordSample pins s).sec = s.sec := rfl
@[simp] theorem recordSample_snap (pins : Byte) (s : State) : (recordSample pins s).snap = pins := rfl
@[simp] theorem recordSample_outPwr (pins : Byte) (s : State) : (recordSample pins s).outPwr = s.outPwr := rfl
@[simp] theorem recordSample_outShdn (pins : Byte) (s : State) : (recordSample pins s).outShdn = s.outShdn := rfl
@[simp] theorem recordSample_outLed (pins : Byte) (s : State) : (recordSample pins s).outLed = s.outLed := rfl
@[simp] theorem recordSample_asleep (pins : Byte) (s : State) : (recordSample pins s).asleep = s.asleep := rfl
@[simp] theorem recordSample_inited (pins : Byte) (s : State) : (recordSample pins s).inited = s.inited := rfl
@[simp] theorem recordSample_sleepPending (pins : Byte) (s : State) : (recordSample pins s).sleepPending = s.sleepPending := rfl
@[simp] theorem recordSample_entryPending (pins : Byte) (s : State) : (recordSample pins s).entryPending = s.entryPending := rfl
@[simp] theorem recordSample_cfg (pins : Byte) (s : State) : (recordSample pins s).cfg = s.cfg := rfl
@[simp] theorem recordSample_agenda (pins : Byte) (s : State) : (recordSample pins s).agenda = s.agenda := rfl

/-! ### sleepEnter -/

@[simp] theorem sleepEnter_state (s : State) : (sleepEnter s).state = s.state := rfl
@[simp] theorem sleepEnter_subsec (s : State) : (sleepEnter s).subsec = s.subsec := rfl
@[simp] theorem sleepEnter_sec (s : State) : (sleepEnter s).sec = s.sec := rfl
@[simp] theorem sleepEnter_snap (s : State) : (sleepEnter s).snap = s.snap := rfl
@[simp] theorem sleepEnter_outPwr (s : State) : (sleepEnter s).outPwr = s.outPwr := rfl
@[simp] theorem sleepEnter_outShdn (s : State) : (sleepEnter s).outShdn = s.outShdn := rfl
@[simp] theorem sleepEnter_outLed (s : State) : (sleepEnter s).outLed = s.outLed := rfl
@[simp] theorem sleepEnter_asleep (s : State) : (sleepEnter s).asleep = true := rfl
@[simp] theorem sleepEnter_inited (s : State) : (sleepEnter s).inited = s.inited := rfl
@[simp] theorem sleepEnter_sleepPending (s : State) : (sleepEnter s).sleepPending = false := rfl
@[simp] theorem sleepEnter_entryPending (s : State) : (sleepEnter s).entryPending = s.entryPending := rfl
@[simp] theorem sleepEnter_cfg (s : State) : (sleepEnter s).cfg = s.cfg := rfl
@[simp] theorem sleepEnter_agenda (s : State) : (sleepEnter s).agenda = s.agenda := rfl

/-! ### addClock -/

@[simp] theorem addClock_state (d : Nat) (s : State) : (addClock d s).state = s.state := rfl
@[simp] theorem addClock_subsec (d : Nat) (s : State) : (addClock d s).subsec = BitVec.ofNat 10 ((s.subsec.toNat + d) % 1000) := rfl
@[simp] theorem addClock_sec (d : Nat) (s : State) : (addClock d s).sec = s.sec + (s.subsec.toNat + d) / 1000 := rfl
@[simp] theorem addClock_snap (d : Nat) (s : State) : (addClock d s).snap = s.snap := rfl
@[simp] theorem addClock_outPwr (d : Nat) (s : State) : (addClock d s).outPwr = s.outPwr := rfl
@[simp] theorem addClock_outShdn (d : Nat) (s : State) : (addClock d s).outShdn = s.outShdn := rfl
@[simp] theorem addClock_outLed (d : Nat) (s : State) : (addClock d s).outLed = s.outLed := rfl
@[simp] theorem addClock_asleep (d : Nat) (s : State) : (addClock d s).asleep = s.asleep := rfl
@[simp] theorem addClock_inited (d : Nat) (s : State) : (addClock d s).inited = s.inited := rfl
@[simp] theorem addClock_sleepPending (d : Nat) (s : State) : (addClock d s).sleepPending = s.sleepPending := rfl
@[simp] theorem addClock_entryPending (d : Nat) (s : State) : (addClock d s).entryPending = s.entryPending := rfl
@[simp] theorem addClock_cfg (d : Nat) (s : State) : (addClock d s).cfg = s.cfg := rfl
@[simp] theorem addClock_agenda (d : Nat) (s : State) : (addClock d s).agenda = s.agenda := rfl

/-! ### clearForInit -/

@[simp] theorem clearForInit_state (s : State) : (clearForInit s).state = .unknown := rfl
@[simp] theorem clearForInit_subsec (s : State) : (clearForInit s).subsec = 0#10 := rfl
@[simp] theorem clearForInit_sec (s : State) : (clearForInit s).sec = 0 := rfl
@[simp] theorem clearForInit_snap (s : State) : (clearForInit s).snap = s.cfg.snapshotReset := rfl
@[simp] theorem clearForInit_outPwr (s : State) : (clearForInit s).outPwr = s.outPwr := rfl
@[simp] theorem clearForInit_outShdn (s : State) : (clearForInit s).outShdn = s.outShdn := rfl
@[simp] theorem clearForInit_outLed (s : State) : (clearForInit s).outLed = s.outLed := rfl
@[simp] theorem clearForInit_asleep (s : State) : (clearForInit s).asleep = false := rfl
@[simp] theorem clearForInit_inited (s : State) : (clearForInit s).inited = true := rfl
@[simp] theorem clearForInit_sleepPending (s : State) : (clearForInit s).sleepPending = false := rfl
@[simp] theorem clearForInit_entryPending (s : State) : (clearForInit s).entryPending = none := rfl
@[simp] theorem clearForInit_cfg (s : State) : (clearForInit s).cfg = s.cfg := rfl
@[simp] theorem clearForInit_agenda (s : State) : (clearForInit s).agenda = s.agenda := rfl

/-! ### writeLine -/

@[simp] theorem writeLine_pwr_outPwr (v : Bool) (s : State) : (writeLine .pwr v s).outPwr = v := rfl
@[simp] theorem writeLine_pwr_outShdn (v : Bool) (s : State) : (writeLine .pwr v s).outShdn = s.outShdn := rfl
@[simp] theorem writeLine_pwr_outLed (v : Bool) (s : State) : (writeLine .pwr v s).outLed = s.outLed := rfl
@[simp] theorem writeLine_shdn_outPwr (v : Bool) (s : State) : (writeLine .shdn v s).outPwr = s.outPwr := rfl
@[simp] theorem writeLine_shdn_outShdn (v : Bool) (s : State) : (writeLine .shdn v s).outShdn = v := rfl
@[simp] theorem writeLine_shdn_outLed (v : Bool) (s : State) : (writeLine .shdn v s).outLed = s.outLed := rfl
@[simp] theorem writeLine_led_outPwr (v : Bool) (s : State) : (writeLine .led v s).outPwr = s.outPwr := rfl
@[simp] theorem writeLine_led_outShdn (v : Bool) (s : State) : (writeLine .led v s).outShdn = s.outShdn := rfl
@[simp] theorem writeLine_led_outLed (v : Bool) (s : State) : (writeLine .led v s).outLed = v := rfl
@[simp] theorem writeLine_state (l : Line) (v : Bool) (s : State) : (writeLine l v s).state = s.state := by cases l <;> rfl
@[simp] theorem writeLine_subsec (l : Line) (v : Bool) (s : State) : (writeLine l v s).subsec = s.subsec := by cases l <;> rfl
@[simp] theorem writeLine_sec (l : Line) (v : Bool) (s : State) : (writeLine l v s).sec = s.sec := by cases l <;> rfl
@[simp] theorem writeLine_snap (l : Line) (v : Bool) (s : State) : (writeLine l v s).snap = s.snap := by cases l <;> rfl
@[simp] theorem writeLine_asleep (l : Line) (v : Bool) (s : State) : (writeLine l v s).asleep = s.asleep := by cases l <;> rfl
@[simp] theorem writeLine_inited (l : Line) (v : Bool) (s : State) : (writeLine l v s).inited = s.inited := by cases l <;> rfl
@[simp] theorem writeLine_sleepPending (l : Line) (v : Bool) (s : State) : (writeLine l v s).sleepPending = s.sleepPending := by cases l <;> rfl
@[simp] theorem writeLine_entryPending (l : Line) (v : Bool) (s : State) : (writeLine l v s).entryPending = s.entryPending := by cases l <;> rfl
@[simp] theorem writeLine_cfg (l : Line) (v : Bool) (s : State) : (writeLine l v s).cfg = s.cfg := by cases l <;> rfl
@[simp] theorem writeLine_agenda (l : Line) (v : Bool) (s : State) : (writeLine l v s).agenda = s.agenda := by cases l <;> rfl

/-! ### transition -/

/-- Entry to a state, written out (40_state_machine_controller.md section 3). -/
theorem transition_unknown (s : State) :
    transition .unknown s = { s with state := .unknown } := rfl

/-- Entry to a state, written out (40_state_machine_controller.md section 3). -/
theorem transition_booting (s : State) :
    transition .booting s = { s with state := .booting, subsec := 0#10, sec := 0, outPwr := true, outShdn := false, outLed := false } := rfl

/-- Entry to a state, written out (40_state_machine_controller.md section 3). -/
theorem transition_idle (s : State) :
    transition .idle s = { s with state := .idle, outLed := true } := rfl

/-- Entry to a state, written out (40_state_machine_controller.md section 3). -/
theorem transition_shuttingDown (s : State) :
    transition .shuttingDown s = { s with state := .shuttingDown, subsec := 0#10, sec := 0, outShdn := true, outLed := false } := rfl

/-- Entry to a state, written out (40_state_machine_controller.md section 3). -/
theorem transition_poweredOff (s : State) :
    transition .poweredOff s = { s with state := .poweredOff, outPwr := false, outShdn := false, outLed := false } := rfl

@[simp] theorem transition_state (st : SupervisorState) (s : State) : (transition st s).state = st := by cases st <;> rfl
@[simp] theorem transition_snap (st : SupervisorState) (s : State) : (transition st s).snap = s.snap := by
  cases st <;> rfl
@[simp] theorem transition_asleep (st : SupervisorState) (s : State) : (transition st s).asleep = s.asleep := by
  cases st <;> rfl
@[simp] theorem transition_inited (st : SupervisorState) (s : State) : (transition st s).inited = s.inited := by
  cases st <;> rfl
@[simp] theorem transition_sleepPending (st : SupervisorState) (s : State) : (transition st s).sleepPending = s.sleepPending := by
  cases st <;> rfl
@[simp] theorem transition_entryPending (st : SupervisorState) (s : State) : (transition st s).entryPending = s.entryPending := by
  cases st <;> rfl
@[simp] theorem transition_cfg (st : SupervisorState) (s : State) : (transition st s).cfg = s.cfg := by
  cases st <;> rfl
@[simp] theorem transition_agenda (st : SupervisorState) (s : State) : (transition st s).agenda = s.agenda := by
  cases st <;> rfl

end Sys2Proof.Machine
end

