-- ==== Sys2Proof/Laws/Ops.lean ====
section
/-! SUPPORT. What each shared operation can answer, said once: later proofs cite these and do not unfold the operations. -/

namespace Sys2Proof.Machine

/-! ### The guard -/

theorem requireInit_next {i : Instr} {s t : State} {body : Host.Outcome State Fault Refusal}
    (h : requireInit i s body = .next t) : s.inited = true ∧ body = .next t := by
  unfold requireInit at h
  split at h
  · exact ⟨‹_›, h⟩
  · cases h

@[simp] theorem requireInit_of_inited {i : Instr} {s : State} {body : Host.Outcome State Fault Refusal}
    (h : s.inited = true) : requireInit i s body = body := if_pos h

@[simp] theorem requireInit_of_not_inited {i : Instr} {s : State} {body : Host.Outcome State Fault Refusal}
    (h : s.inited = false) : requireInit i s body = .refused (.notInitialised (encode i)) := by
  simp [requireInit, h]

/-! ### Advance -/

/-- Everything `Advance` can do where it does not overflow: nothing outside a timed state, else an addition with at most one
carry. -/
theorem advance_cases {d : Nat} {s t : State} (h : advance d s = some t) :
    (timed s.state = false ∧ t = s) ∨
    (timed s.state = true ∧ s.subsec.toNat + d < 1000 ∧ t = { s with subsec := BitVec.ofNat 10 (s.subsec.toNat + d) }) ∨
    (timed s.state = true ∧ 1000 ≤ s.subsec.toNat + d ∧ s.sec + 1 < 2 ^ s.cfg.secW ∧
      t = { s with sec := s.sec + 1, subsec := BitVec.ofNat 10 (s.subsec.toNat + d - 1000) }) := by
  unfold advance at h
  split at h
  · split at h
    · split at h
      · cases h
      · right; right
        simp only [Option.some.injEq] at h
        exact ⟨‹_›, ‹_›, by omega, h.symm⟩
    · right; left
      simp only [Option.some.injEq] at h
      exact ⟨‹_›, by omega, h.symm⟩
  · left
    simp only [Option.some.injEq] at h
    exact ⟨by simpa using ‹¬ timed s.state = true›, h.symm⟩

/-- `Advance` in a timed state, where the registers are in range and no carry leaves SEC: an exact addition. -/
theorem advance_timed {d : Nat} {s : State} (ht : timed s.state = true) (hs : s.subsec.toNat ≤ 999) (hd : d ≤ 999)
    (hc : s.sec + (s.subsec.toNat + d) / 1000 < 2 ^ s.cfg.secW) : advance d s = some (addClock d s) := by
  unfold advance addClock
  rw [if_pos ht]
  split
  · rw [if_neg (by omega), show (s.subsec.toNat + d) / 1000 = 1 by omega,
      show (s.subsec.toNat + d) % 1000 = s.subsec.toNat + d - 1000 by omega]
  · rw [show (s.subsec.toNat + d) / 1000 = 0 by omega, show (s.subsec.toNat + d) % 1000 = s.subsec.toNat + d by omega,
      Nat.add_zero]

/-- `Advance` refuses exactly a carry out of SEC. -/
theorem advance_none {d : Nat} {s : State} (h : advance d s = none) :
    timed s.state = true ∧ 1000 ≤ s.subsec.toNat + d ∧ 2 ^ s.cfg.secW ≤ s.sec + 1 := by
  unfold advance at h
  split at h
  · split at h
    · split at h
      · exact ⟨‹_›, ‹_›, ‹_›⟩
      · cases h
    · cases h
  · cases h

/-! ### TICK -/

@[simp] theorem held_of_awake {s : State} (h : awake s) : held s = false := by
  obtain ⟨h1, h2, h3⟩ := h
  simp [held, h1, h2, h3]

theorem awake_of_not_held {s : State} (h : held s = false) : awake s := by
  simp only [held, Bool.or_eq_false_iff, Option.isSome_eq_false_iff, Option.isNone_iff_eq_none] at h
  exact ⟨h.1.1, h.1.2, h.2⟩

/-- Everything a TICK of a timed state can do where it is not refused. -/
theorem tickTimed_cases {p limit : Nat} {nxt : EntryPos} {s t : State} (h : tickTimed p limit nxt s = .next t) :
    ∃ u, advance p (toggleLed s) = some u ∧
      (u.sec < limit ∧ t = u ∨
        limit ≤ u.sec ∧ u.cfg.entryRace = false ∧ t = transition nxt.target u ∨
        limit ≤ u.sec ∧ u.cfg.entryRace = true ∧ t = { u with state := nxt.target, entryPending := some nxt }) := by
  unfold tickTimed at h
  split at h
  · cases h
  · rename_i u hu
    refine ⟨u, hu, ?_⟩
    simp only [Host.Outcome.next.injEq] at h
    subst h
    split
    · cases hr : u.cfg.entryRace <;> simp [timeoutTransition, *]
    · left
      exact ⟨by omega, rfl⟩

@[simp] theorem tickError_eq (s : State) : tickError s = s := by
  cases s
  simp [tickError, toggleLed]

/-- Everything TICK can do where it is not refused. -/
theorem execTick_cases {s t : State} (h : execTick s = .next t) :
    s.inited = true ∧
    (held s = true ∧ t = s ∨
      held s = false ∧
        (s.state = .booting ∧ tickTimed s.cfg.bootTickMs s.cfg.bootTimeout .idle s = .next t ∨
          s.state = .shuttingDown ∧ tickTimed s.cfg.shutdownTickMs s.cfg.shutdownTimeout (.poweredOff 0) s = .next t ∨
          (s.state = .idle ∨ s.state = .poweredOff) ∧ t = tickSleep s ∨ s.state = .unknown ∧ t = s)) := by
  obtain ⟨hi, hb⟩ := requireInit_next h
  refine ⟨hi, ?_⟩
  cases hh : held s
  · right
    simp only [hh, Bool.false_eq_true, if_false] at hb
    unfold tickAction at hb
    cases hs : s.state <;> simp only [hs, Host.Outcome.next.injEq, tickError_eq] at hb <;> simp [hb]
  · left
    simp only [hh, if_true, Host.Outcome.next.injEq] at hb
    exact ⟨rfl, hb.symm⟩

/-- A TICK that is neither refused nor held runs the action of the state. -/
theorem exec_tick_awake {s : State} (hi : s.inited = true) (ha : awake s) : exec .tick s = tickAction s := by
  simp [exec, execTick, hi, ha]

/-! ### ADV -/

/-- Everything ADV needs to answer a next state. -/
theorem execAdv_next {dur : BitVec 10} {s t : State} (h : execAdv dur s = .next t) :
    s.inited = true ∧ durationMs dur ≤ 999 ∧ advance (durationMs dur) s = some t := by
  unfold execAdv at h
  split at h
  · rename_i hl
    obtain ⟨hi, hb⟩ := requireInit_next h
    split at hb
    · cases hb
    · rename_i u hu
      simp only [Host.Outcome.next.injEq] at hb
      exact ⟨hi, by simpa [durationLegal] using hl, hb ▸ hu⟩
  · cases h

/-! ### EDGE -/

theorem execEdge_next {pins : Byte} {s t : State} (h : execEdge pins s = .next t) :
    s.inited = true ∧ t = edgeDetect pins s := by
  obtain ⟨hi, hb⟩ := requireInit_next h
  simp only [Host.Outcome.next.injEq] at hb
  exact ⟨hi, hb.symm⟩

theorem exec_edge_inited {pins : Byte} {s : State} (hi : s.inited = true) :
    exec (.edge pins) s = .next (edgeDetect pins s) := by
  simp [exec, execEdge, hi]

/-- Everything an EDGE can do: one of the three effects, or only the recording and the wake. -/
theorem edgeDetect_cases (pins : Byte) (s : State) :
    (s.state = .booting ∧ readyRises pins s.snap = true ∧
      edgeDetect pins s = { s with snap := pins, asleep := false, sec := s.cfg.bootTimeout % 2 ^ s.cfg.secW }) ∨
    (s.state = .idle ∧ buttonRises pins s.snap = true ∧
      edgeDetect pins s = transition .shuttingDown { s with snap := pins, asleep := false }) ∨
    (s.state = .poweredOff ∧ buttonRises pins s.snap = true ∧
      edgeDetect pins s = transition .booting { s with snap := pins, asleep := false }) ∨
    (¬ (s.state = .booting ∧ readyRises pins s.snap = true) ∧
      ¬ ((s.state = .idle ∨ s.state = .poweredOff) ∧ buttonRises pins s.snap = true) ∧
      edgeDetect pins s = { s with snap := pins, asleep := false }) := by
  cases hs : s.state <;> cases hr : readyRises pins s.snap <;> cases hb : buttonRises pins s.snap <;>
    simp [edgeDetect, readyRule, buttonRule, hs, hr, hb, wake, recordSample, setSec]

theorem rising_getLsbD (pins snap : Byte) (k : Nat) : (rising pins snap).getLsbD k = (pins.getLsbD k && !snap.getLsbD k) := by
  unfold rising
  rw [BitVec.getLsbD_and, BitVec.getLsbD_xor]
  cases pins.getLsbD k <;> cases snap.getLsbD k <;> rfl

theorem buttonRises_eq (pins snap : Byte) : buttonRises pins snap = (pins.getLsbD 0 && !snap.getLsbD 0) :=
  rising_getLsbD pins snap 0

theorem readyRises_eq (pins snap : Byte) : readyRises pins snap = (pins.getLsbD 1 && !snap.getLsbD 1) :=
  rising_getLsbD pins snap 1

/-! ### ENTRY_STEP -/

theorem entryStep_idle (s : State) : entryStep .idle s = { s with outLed := true, entryPending := none } := rfl

theorem entryStep_poweredOff_0 (s : State) :
    entryStep (.poweredOff 0) s = { s with outPwr := false, entryPending := some (.poweredOff 1) } := rfl

theorem entryStep_poweredOff_1 (s : State) :
    entryStep (.poweredOff 1) s = { s with outLed := false, entryPending := some (.poweredOff 2) } := rfl

theorem entryStep_poweredOff_2 (s : State) :
    entryStep (.poweredOff 2) s = { s with outShdn := false, entryPending := none } := rfl

/-- ENTRY_STEP writes one line and ENTRY_PENDING, nothing else. -/
theorem entryStep_frame (p : EntryPos) (s : State) :
    entryStep p s =
      { s with outPwr := (entryStep p s).outPwr, outShdn := (entryStep p s).outShdn, outLed := (entryStep p s).outLed,
               entryPending := p.next } := by
  match p with
  | .idle => rfl
  | .poweredOff 0 => rfl
  | .poweredOff 1 => rfl
  | .poweredOff 2 => rfl

/-! ### The main line and the step -/

/-- Everything a turn of the main line can do where it is not refused. -/
theorem mainLineTurn_cases {s t : State} (h : mainLineTurn s = .next t) :
    (s.sleepPending = true ∧ t = sleepEnter s) ∨
    (∃ p, s.sleepPending = false ∧ s.entryPending = some p ∧ t = entryStep p s) ∨
    (s.sleepPending = false ∧ s.entryPending = none ∧ execTick s = .next t) := by
  unfold mainLineTurn at h
  split at h
  · left
    simp only [Host.Outcome.next.injEq] at h
    exact ⟨‹_›, h.symm⟩
  · have hs : s.sleepPending = false := by simpa using ‹¬ s.sleepPending = true›
    right
    split at h
    · rename_i p hp
      simp only [Host.Outcome.next.injEq] at h
      exact .inl ⟨p, hs, hp, h.symm⟩
    · exact .inr ⟨hs, ‹_›, h⟩

theorem step_nil {s : State} (h : s.agenda = []) : step s = mainLineTurn s := by
  simp [step, nextEvent, h, perform]

theorem step_cons {s : State} {e : Event} {rest : List Event} (h : s.agenda = e :: rest) :
    step s = perform e { s with agenda := rest } := by
  simp [step, nextEvent, h]

theorem performWord_instr {w : Word} {i : Instr} (h : decode w = .instr i) (s : State) : performWord w s = exec i s := by
  simp [performWord, h]

theorem performWord_illegal {w : Word} {why : Illegal} (h : decode w = .illegal why) (s : State) :
    performWord w s = .refused (.illegalWord w) := by
  simp [performWord, h]

/-- Everything a step can do where it is not refused: the main line's turn, or a presented operation, in the state without
that turn. -/
theorem step_cases {s t : State} (h : step s = .next t) :
    ((s.agenda = [] ∨ ∃ rest, s.agenda = .mainLine :: rest) ∧ mainLineTurn { s with agenda := s.agenda.tail } = .next t) ∨
    ∃ w i rest, s.agenda = .op w :: rest ∧ decode w = .instr i ∧ exec i { s with agenda := rest } = .next t := by
  cases ha : s.agenda with
  | nil =>
    rw [step_nil ha] at h
    have hs : { s with agenda := [] } = s := by cases s; simp_all
    exact .inl ⟨.inl rfl, by simpa [hs] using h⟩
  | cons e rest =>
    rw [step_cons ha] at h
    cases e with
    | mainLine => exact .inl ⟨.inr ⟨rest, rfl⟩, h⟩
    | op w =>
      cases hd : decode w with
      | instr i => exact .inr ⟨w, i, rest, rfl, hd, by rwa [perform, performWord_instr hd] at h⟩
      | illegal why =>
        rw [perform, performWord_illegal hd] at h
        cases h

/-! ### Runs -/

theorem runSteps_zero (s : State) : runSteps 0 s = .next s := rfl

theorem runSteps_succ (k : Nat) (s : State) :
    runSteps (k + 1) s =
      match step s with
      | .next t => runSteps k t
      | .fault r => .fault r
      | .refused r => .refused r := by
  cases h : step s <;> simp only [runSteps, Host.Core.run, show Sys2Proof.core.step s = _ from h] <;> rfl

theorem runSteps_succ_next {k : Nat} {s t : State} (h : step s = .next t) : runSteps (k + 1) s = runSteps k t := by
  rw [runSteps_succ, h]

/-- A run whose first step is refused is refused for that reason, however long it is. -/
theorem runSteps_succ_refused {s : State} {r : Refusal} (h : step s = .refused r) (k : Nat) :
    runSteps (k + 1) s = .refused r := by
  rw [runSteps_succ, h]

/-- A refused run stays refused. -/
theorem runSteps_add_refused {j : Nat} {s : State} {r : Refusal} (h : runSteps j s = .refused r) (k : Nat) :
    runSteps (j + k) s = .refused r := by
  induction j generalizing s with
  | zero => cases h
  | succ j ih =>
    rw [runSteps_succ] at h
    rw [Nat.succ_add, runSteps_succ]
    cases hs : step s with
    | next u => rw [hs] at h; exact ih h
    | fault r => rw [hs] at h; cases h
    | refused r => rw [hs] at h; exact h

/-- A run of `j + k` steps is a run of `k` steps from where `j` steps lead. -/
theorem runSteps_add (j k : Nat) (s t : State) (h : runSteps j s = .next t) : runSteps (j + k) s = runSteps k t := by
  induction j generalizing s with
  | zero =>
    simp only [runSteps_zero, Host.Outcome.next.injEq] at h
    rw [Nat.zero_add, h]
  | succ j ih =>
    rw [Nat.succ_add, runSteps_succ]
    rw [runSteps_succ] at h
    cases hs : step s with
    | next u => rw [hs] at h; exact ih u h
    | fault r => rw [hs] at h; cases h
    | refused r => rw [hs] at h; cases h

end Sys2Proof.Machine
end

