-- ==== Sys2Proof/Laws/PerInstr.lean ====
section
/-! SUPPORT. The per-instruction family `EncodedInRow`: the word of an operation lies in its row of the opcode table. -/

namespace Sys2Proof.Laws.EncodedInRow

/-- The encoding of an operation has the row's match under the row's mask (spec/opcode_table.json, 30_encoding.md R57 to R60). -/
def Statement (i : Instr) : Prop := (rowOf i).holds (encode i) = true

theorem tick : Statement .tick := by unfold Statement; decide

theorem edge (pins : Byte) : Statement (.edge pins) := by
  unfold Statement; revert pins; decide

theorem transUnknown : Statement .transUnknown := by unfold Statement; decide

theorem transBooting : Statement .transBooting := by unfold Statement; decide

theorem transIdle : Statement .transIdle := by unfold Statement; decide

theorem transShuttingDown : Statement .transShuttingDown := by unfold Statement; decide

theorem transPoweredOff : Statement .transPoweredOff := by unfold Statement; decide

theorem adv (dur : BitVec 10) : Statement (.adv dur) := by
  unfold Statement; revert dur; decide

theorem init : Statement .init := by unfold Statement; decide

end Sys2Proof.Laws.EncodedInRow
end

