-- ==== Sys2Proof/Tests/Slice0.lean ====
section
/-! SUPPORT. Tests of the model against the vectors of 95_test_vectors.md (their section stands in each comment), and for every
statement of Certificates/Slice0/Obligations.lean that has hypotheses a witness: a state and operands that meet them. -/

namespace Sys2Proof.Tests

open Sys2Proof.Machine

/-! ### Small states -/

/-- An initialised state with the default parameters: state, clock, lines and snapshot as the vectors write them. -/
def stateAt (st : SupervisorState) (sec ms : Nat) (pwr shdn led : Bool) (snap : Byte) : State :=
  { State.reset with
    state := st, sec := sec, subsec := BitVec.ofNat 10 ms, outPwr := pwr, outShdn := shdn, outLed := led, snap := snap }

/-- Words presented to a state. -/
def presented (ws : List Word) (s : State) : State := { s with agenda := ws.map .op }

/-- The state before any INIT. -/
def uninit (s : State) : State := { s with inited := false }

def sleepRacing (s : State) : State := { s with cfg := { s.cfg with sleepRace := true } }

def entryRacing (s : State) : State := { s with cfg := { s.cfg with entryRace := true } }

def off : State := stateAt .poweredOff 0 0 false false false 0x00
def booting : State := stateAt .booting 0 0 true false false 0x01
def idle : State := stateAt .idle 40 400 true false true 0x02
def shutting : State := stateAt .shuttingDown 0 0 true true false 0x03
def defective : State := stateAt .unknown 2 998 true false true 0x00

/-! ### WellFormed -/

theorem test_wf_refuses_adv_1000 : (Instr.adv 1000#10).wf = false := by decide

theorem test_wf_refuses_adv_1023 : (Instr.adv 1023#10).wf = false := by decide

theorem test_wf_admits_adv_999 : (Instr.adv 999#10).wf = true := by decide

/-! ### Decode: the words of 95_test_vectors.md V1, written from the formats of 30_encoding.md R57 to R60 -/

theorem test_decode_format_T : decode 0b0010000000000000#16 = .instr .tick ∧ decode 0b1110000000000000#16 = .instr .init := by
  decide

theorem test_decode_format_E :
    decode 0b0100000000000000#16 = .instr (.edge 0x00#8) ∧ decode 0b0100000000000001#16 = .instr (.edge 0x01#8) ∧
    decode 0b0100000011111111#16 = .instr (.edge 0xFF#8) := by decide

theorem test_decode_format_S :
    decode 0b0110000000000000#16 = .instr .transUnknown ∧ decode 0b0110000000000001#16 = .instr .transBooting ∧
    decode 0b0110000000000010#16 = .instr .transIdle ∧ decode 0b0110000000000011#16 = .instr .transShuttingDown ∧
    decode 0b0110000000000100#16 = .instr .transPoweredOff := by decide

theorem test_decode_format_A :
    decode 0b1000000000000000#16 = .instr (.adv 0#10) ∧ decode 0b1000000000000001#16 = .instr (.adv 1#10) ∧
    decode 0b1000000011001000#16 = .instr (.adv 200#10) ∧ decode 0b1000000111110100#16 = .instr (.adv 500#10) ∧
    decode 0b1000001111100111#16 = .instr (.adv 999#10) := by decide

theorem test_decode_reserved_opcodes :
    [0x0000#16, 0x1FFF#16, 0xA000#16, 0xC000#16].map decode = List.replicate 4 (.illegal .reservedOpcode) := by decide

theorem test_decode_reserved_bits :
    [0x2001#16, 0x3000#16, 0x4100#16, 0x5F03#16, 0x6008#16, 0x8400#16, 0xE001#16, 0xFFFF#16].map decode =
      List.replicate 8 (.illegal .reservedBits) := by decide

theorem test_decode_no_such_state :
    [0x6005#16, 0x6006#16, 0x6007#16].map decode = List.replicate 3 (.illegal .noSuchState) := by decide

theorem test_decode_duration_too_long :
    [0x83E8#16, 0x83FF#16].map decode = List.replicate 2 (.illegal .durationTooLong) := by decide

theorem test_decodeTableWord : decodeTableWord 16 0x81F4 = some (.adv 500#10) ∧ decodeTableWord 16 0x6005 = none := by decide

/-- V1, byte streams. -/
theorem test_byte_streams :
    wordsOfBytes [0x00#8, 0xE0#8, 0x00#8, 0x20#8] = some [0xE000#16, 0x2000#16] ∧
    wordsOfBytes [0x01#8, 0x40#8, 0xC8#8, 0x80#8] = some [0x4001#16, 0x80C8#16] ∧
    refusalOf (presentBytes [0x00#8, 0xE0#8, 0x00#8] off) = some (.illegalStream [0x00#8, 0xE0#8, 0x00#8]) := by decide

/-! ### One step of each operation -/

/-- V4: `Booting` 39/800 OUT=(1,0,0) ends in `Idle` 40/0 OUT=(1,0,1). -/
theorem test_tick_boot_timeout :
    nextOf (exec .tick (stateAt .booting 39 800 true false false 0x00)) = some (stateAt .idle 40 0 true false true 0x00) := by
  decide

/-- V4: `ShuttingDown` 39/500 OUT=(1,1,1) ends in `PoweredOff` 40/0 OUT=(0,0,0). -/
theorem test_tick_shutdown_timeout :
    nextOf (exec .tick (stateAt .shuttingDown 39 500 true true true 0x00)) =
      some (stateAt .poweredOff 40 0 false false false 0x00) := by decide

/-- V5: both lines rise in `PoweredOff`: SEC is 0, not 40. -/
theorem test_edge_both_rise_in_poweredOff :
    nextOf (exec (.edge 0x03) { off with asleep := true }) = some (stateAt .booting 0 0 true false false 0x03) := by decide

/-- V5: host-ready falls and the button rises in `Idle`; host-ready rises and the button falls in `Booting`. -/
theorem test_edge_the_two_lines_are_not_swapped :
    nextOf (exec (.edge 0x01) idle) = some (stateAt .shuttingDown 0 0 true true false 0x01) ∧
    nextOf (exec (.edge 0x02) (stateAt .booting 7 400 true false true 0x01)) =
      some (stateAt .booting 40 400 true false true 0x02) := by decide

/-- V2: `Idle` OUT=(1,0,1) keeps its lines, clock and SNAP. -/
theorem test_transUnknown : nextOf (exec .transUnknown idle) = some { idle with state := .unknown } := by decide

/-- V2: re-entry clears the clock and the LED, and ASLEEP stays. -/
theorem test_transBooting :
    nextOf (exec .transBooting { stateAt .booting 12 600 true false true 0x00 with asleep := true }) =
      some { stateAt .booting 0 0 true false false 0x00 with asleep := true } := by decide

/-- V2: `PoweredOff` OUT=(0,0,0) to `Idle` OUT=(0,0,1). -/
theorem test_transIdle : nextOf (exec .transIdle off) = some (stateAt .idle 0 0 false false true 0x00) := by decide

/-- V2: `PoweredOff` OUT=(0,0,0) to `ShuttingDown` OUT=(0,1,0). -/
theorem test_transShuttingDown :
    nextOf (exec .transShuttingDown off) = some (stateAt .shuttingDown 0 0 false true false 0x00) := by decide

/-- V2: `ShuttingDown` 5/500 to `PoweredOff`, the clock frozen. -/
theorem test_transPoweredOff :
    nextOf (exec .transPoweredOff (stateAt .shuttingDown 5 500 true true true 0x00)) =
      some (stateAt .poweredOff 5 500 false false false 0x00) := by decide

/-- V3: 0/999 and 999 give 1/998; 3/800 and 200 give 4/0; `Idle` is not timed. -/
theorem test_adv_carry :
    nextOf (exec (.adv 999#10) (stateAt .booting 0 999 true false false 0x00)) = some (stateAt .booting 1 998 true false false 0x00) ∧
    nextOf (exec (.adv 200#10) (stateAt .booting 3 800 true false false 0x00)) = some (stateAt .booting 4 0 true false false 0x00) ∧
    nextOf (exec (.adv 999#10) idle) = some idle := by decide

/-- V3: 255/499 takes 500 without a carry, 255/500 is refused. -/
theorem test_adv_overflow :
    nextOf (exec (.adv 500#10) (stateAt .booting 255 499 true false false 0x00)) =
      some (stateAt .booting 255 999 true false false 0x00) ∧
    refusalOf (exec (.adv 500#10) (stateAt .booting 255 500 true false false 0x00)) = some (.accOverflow 0x81F4#16) := by decide

/-- V6: power is removed at once from `Booting` 12/400. -/
theorem test_init_from_booting : nextOf (exec .init (stateAt .booting 12 400 true false true 0x01)) = some off := by decide

/-- V6: INIT clears both pending elements. -/
theorem test_init_clears_pending :
    nextOf (exec .init { entryRacing off with entryPending := some (.poweredOff 1) }) = some (entryRacing off) ∧
    nextOf (exec .init { sleepRacing idle with sleepPending := true }) = some (sleepRacing off) := by decide

/-- V1, refusal precedence. -/
theorem test_refusal_precedence :
    refusalOf (step (presented [0x2001#16] (uninit off))) = some (.illegalWord 0x2001#16) ∧
    refusalOf (step (presented [0x2000#16] (uninit off))) = some (.notInitialised 0x2000#16) ∧
    refusalOf (step (presented [0x4003#16] (uninit off))) = some (.notInitialised 0x4003#16) ∧
    nextOf (step (presented [0xE000#16] (uninit off))) = some off := by decide

/-- V4, races: SLEEP_ENTER puts the shutting-down main line to sleep. -/
theorem test_sleepEnter :
    nextOf (step { sleepRacing shutting with sleepPending := true }) = some { sleepRacing shutting with asleep := true } := by
  decide

/-- V4, races: the three ENTRY_STEP of a split shutdown write OUT_PWR, OUT_LED and OUT_SHDN in that order. -/
theorem test_entryStep :
    nextOf (step { entryRacing booting with entryPending := some (.poweredOff 0) }) =
      some { entryRacing booting with outPwr := false, entryPending := some (.poweredOff 1) } ∧
    nextOf (step { entryRacing shutting with outLed := true, entryPending := some (.poweredOff 1) }) =
      some { entryRacing shutting with entryPending := some (.poweredOff 2) } ∧
    nextOf (step { entryRacing shutting with entryPending := some (.poweredOff 2) }) =
      some { entryRacing shutting with outShdn := false } := by decide

theorem test_withFetchWord : nextOf (step (State.reset.withFetchWord 16 0x4001)) = some booting := by decide

/-! ### Observation, text and refusal codes -/

/-- V7. -/
theorem test_status_words :
    [off, { off with asleep := true }, booting, idle, { idle with asleep := true }, shutting,
      stateAt .shuttingDown 39 500 true true true 0x00].map statusWord =
      [0x0084#16, 0x00C4#16, 0x0089#16, 0x00AA#16, 0x00EA#16, 0x009B#16, 0x00BB#16] := by decide

/-- V7. -/
theorem test_clock_words :
    [booting, stateAt .booting 1 998 true false true 0x00, stateAt .booting 40 200 true false true 0x00,
      stateAt .shuttingDown 39 500 true true true 0x00, idle].map (fun s => (observe s).clock) =
      [some 0x00000000#32, some 0x000007E6#32, some 0x0000A0C8#32, some 0x00009DF4#32, none] := by decide

/-- L3, the lines of P1 to P4, and the syntax of 30_encoding.md R68. -/
theorem test_assembler_lines :
    assembleLine "INIT".toList = some [0xE000#16] ∧ assembleLine "EDGE 0x01 ; press".toList = some [0x4001#16] ∧
    assembleLine "TRANS PoweredOff".toList = some [0x6004#16] ∧ assembleLine "ADV 999".toList = some [0x83E7#16] ∧
    assembleLine "TICK*3".toList = some [0x2000#16, 0x2000#16, 0x2000#16] ∧ assembleLine "ADV 1000".toList = none := by decide

/-- L3, the pseudo-operations of P2 and P3. -/
theorem test_pseudo_operations :
    assembleLine "HOSTUP 1".toList = some [0x4003#16] ∧ assembleLine "HOSTDOWN 1".toList = some [0x4001#16] ∧
    assembleLine "CLICK 1".toList = some [0x4003#16, 0x4002#16] ∧ assembleLine "PRESS 0".toList = some [0x4001#16] ∧
    assembleLine "RELEASE 0".toList = some [0x4000#16] ∧ assembleLine "WAIT 2".toList = some [0x2000#16, 0x2000#16] := by decide

/-- 60_exceptions.md R152. -/
theorem test_refusal_codes :
    (Refusal.illegalWord 0x2001#16).code = some 1 ∧ (Refusal.accOverflow 0x8001#16).code = some 2 ∧
    (Refusal.notInitialised 0x2000#16).code = some 3 ∧ (Refusal.accOverflow 0x8001#16).recorded = some 0x8001#16 := by decide

/-! ### Witnesses: encoding and the step -/

theorem witness_IllegalWordsAreRefused :
    (presented [0x6005#16] off).agenda = .op 0x6005#16 :: [] ∧ decode 0x3000#16 = .illegal .reservedBits ∧
    decode 0x4100#16 = .illegal .reservedBits ∧ decode 0x6008#16 = .illegal .reservedBits ∧
    decode 0x8400#16 = .illegal .reservedBits ∧ decode 0xC000#16 = .illegal .reservedOpcode ∧
    decode 0x6005#16 = .illegal .noSuchState ∧ decode 0x83E8#16 = .illegal .durationTooLong := by decide

theorem witness_DecodeEncodeRoundTrip : (Instr.adv 999#10).wf = true ∧ (Instr.edge 0xFF#8).wf = true := by decide

theorem witness_EncodeDecodeRoundTrip : decode 0x83E7#16 = .instr (.adv 999#10) := by decide

theorem witness_OpcodeRowsAreDisjoint :
    (rowOf (.adv 0#10)).holds 0x83E7#16 = true ∧ (rowOf (.adv 999#10)).holds 0x83E7#16 = true ∧
    decode 0x83E7#16 = .instr (.adv 999#10) := by decide

theorem witness_ByteStreamsAreLittleEndian : [0x00#8, 0xE0#8, 0x00#8].length % 2 = 1 := by decide

theorem witness_StepRunsThePresentedOperation :
    (presented [0x2000#16, 0x4001#16] off).agenda = .op 0x2000#16 :: [.op 0x4001#16] ∧ decode 0x2000#16 = .instr .tick := by
  decide

theorem witness_MainLineTakesItsOneStep :
    (off.agenda = [] ∧ off = off ∨ ∃ rest, off.agenda = .mainLine :: rest ∧ off = { off with agenda := rest }) ∧
    off.sleepPending = false ∧ off.entryPending = none := ⟨.inl ⟨rfl, rfl⟩, rfl, rfl⟩

theorem witness_MainLineTakesItsOneStep_sleepEnter :
    ({ sleepRacing idle with sleepPending := true, agenda := [.mainLine] } : State).agenda = .mainLine :: [] ∧
    ({ sleepRacing idle with sleepPending := true } : State).sleepPending = true := ⟨rfl, rfl⟩

theorem witness_MainLineTakesItsOneStep_entryStep :
    ({ entryRacing off with entryPending := some (.poweredOff 2), agenda := [.mainLine] } : State).agenda = .mainLine :: [] ∧
    (entryRacing off).sleepPending = false ∧
    ({ entryRacing off with entryPending := some (.poweredOff 2) } : State).entryPending = some (.poweredOff 2) :=
  ⟨rfl, rfl, rfl⟩

/-- The illegal word comes second and INIT third. -/
theorem witness_RefusedRunStaysRefused_illegal_word :
    let u := presented [0x2001#16, 0xE000#16] booting
    runSteps 1 (presented [0x4001#16, 0x2001#16, 0xE000#16] off) = .next u ∧
    u.agenda = .op 0x2001#16 :: [.op 0xE000#16] ∧ decode 0x2001#16 = .illegal .reservedBits := ⟨rfl, rfl, rfl⟩

/-- The first operation, before an INIT. -/
theorem witness_RefusedRunStaysRefused_not_initialised :
    let u := presented [0x83E7#16, 0xE000#16] (uninit off)
    runSteps 0 u = .next u ∧ u.agenda = .op 0x83E7#16 :: [.op 0xE000#16] ∧ decode 0x83E7#16 = .instr (.adv 999#10) ∧
    Instr.adv 999#10 ≠ .init ∧ u.inited = false := ⟨rfl, rfl, rfl, by decide, rfl⟩

/-- 95_test_vectors.md P6: ADV 999 and then ADV 1 at SEC = 255, an INIT after them. -/
theorem witness_RefusedRunStaysRefused_adv :
    let u := presented [0x8001#16, 0xE000#16] (stateAt .shuttingDown 255 999 true true true 0x00)
    runSteps 1 (presented [0x83E7#16, 0x8001#16, 0xE000#16] (stateAt .shuttingDown 255 0 true true true 0x00)) = .next u ∧
    u.agenda = .op 0x8001#16 :: [.op 0xE000#16] ∧ decode 0x8001#16 = .instr (.adv 1#10) ∧ u.inited = true ∧
    timed u.state = true ∧ 1000 ≤ u.subsec.toNat + (1#10).toNat ∧ 2 ^ u.cfg.secW ≤ u.sec + 1 :=
  ⟨rfl, rfl, rfl, rfl, rfl, by decide, by decide⟩

theorem witness_RefusedRunStaysRefused_tick :
    let b := presented [0x2000#16, 0xE000#16] (stateAt .booting 255 800 true false true 0x00)
    let d := presented [0x2000#16, 0xE000#16] (stateAt .shuttingDown 255 500 true true true 0x00)
    decode 0x2000#16 = .instr .tick ∧
    (runSteps 0 b = .next b ∧ b.agenda = .op 0x2000#16 :: [.op 0xE000#16] ∧ b.inited = true ∧ awake b ∧ b.state = .booting ∧
      1000 ≤ b.subsec.toNat + b.cfg.bootTickMs ∧ 2 ^ b.cfg.secW ≤ b.sec + 1) ∧
    (runSteps 0 d = .next d ∧ d.agenda = .op 0x2000#16 :: [.op 0xE000#16] ∧ d.inited = true ∧ awake d ∧
      d.state = .shuttingDown ∧ 1000 ≤ d.subsec.toNat + d.cfg.shutdownTickMs ∧ 2 ^ d.cfg.secW ≤ d.sec + 1) :=
  ⟨rfl, ⟨rfl, rfl, rfl, ⟨rfl, rfl, rfl⟩, rfl, by decide, by decide⟩,
    ⟨rfl, rfl, rfl, ⟨rfl, rfl, rfl⟩, rfl, by decide, by decide⟩⟩

theorem witness_StepKeepsTheParameters : step off = .next { off with asleep := true } := rfl

/-! ### Witnesses: INIT and TRANS -/

theorem witness_OnlyInitRunsBeforeInit :
    (Instr.adv 999#10).wf = true ∧ Instr.adv 999#10 ≠ .init ∧ (uninit off).inited = false := by decide

theorem witness_FirstTickAfterInitSleeps :
    exec .init booting = .next off ∧ off.cfg.sleepRace = false ∧ exec .init (sleepRacing booting) = .next (sleepRacing off) ∧
    (sleepRacing off).cfg.sleepRace = true := ⟨rfl, rfl, rfl, rfl⟩

theorem witness_ButtonHeldAtInit :
    (presented [0xE000#16, 0x4003#16, 0x4001#16] off).agenda =
      .op 0xE000#16 :: (edgeEvent 0x03#8 :: [0x01#8].map edgeEvent) ++ [] ∧
    (∀ q ∈ [0x03#8, 0x01#8], q.getLsbD 0 = true) ∧ off.cfg.snapshotReset.getLsbD 0 = false ∧
    ({ off.cfg with snapshotReset := 0x01#8 } : Params).snapshotReset.getLsbD 0 = true := by decide

theorem witness_ButtonHeldAtInit_one_sample :
    (presented [0xE000#16, 0x40FF#16] off).agenda = .op 0xE000#16 :: (edgeEvent 0xFF#8 :: [].map edgeEvent) ++ [] ∧
    (∀ q ∈ [0xFF#8], q.getLsbD 0 = true) := by decide

theorem witness_TransPerformsTheTransition : off.inited = true ∧ (uninit off).inited = false := by decide

theorem witness_EnteringATimedStateClearsTheClock :
    exec (.edge 0x01) off = .next booting ∧ timed booting.state = true ∧ booting.state ≠ off.state ∧
    exec .transBooting (stateAt .booting 12 600 true false true 0x01) = .next booting ∧
    exec .transShuttingDown (stateAt .shuttingDown 5 500 true true true 0x03) = .next shutting ∧
    timed shutting.state = true := ⟨rfl, rfl, by decide, rfl, rfl, rfl⟩

theorem witness_UnknownIsLeftOnlyByInitOrTrans :
    defective.inited = true ∧ defective.state = .unknown ∧ awake defective ∧ exec .init defective = .next off ∧
    off.state ≠ .unknown := ⟨rfl, rfl, ⟨rfl, rfl, rfl⟩, rfl, by decide⟩

/-! ### Witnesses: ADV -/

theorem witness_AdvAddsToTheClock_refused_or_not_timed :
    (999#10).toNat ≤ 999 ∧ idle.subsec.toNat ≤ 999 ∧ (uninit idle).inited = false ∧ idle.inited = true ∧
    timed idle.state = false := by decide

theorem witness_AdvAddsToTheClock_no_carry :
    (999#10).toNat ≤ 999 ∧ booting.subsec.toNat ≤ 999 ∧ booting.inited = true ∧ timed booting.state = true ∧
    booting.subsec.toNat + (999#10).toNat < 1000 := by decide

theorem witness_AdvAddsToTheClock_carry :
    let s := stateAt .shuttingDown 254 999 true true true 0x00
    (1#10).toNat ≤ 999 ∧ s.subsec.toNat ≤ 999 ∧ s.inited = true ∧ timed s.state = true ∧
    1000 ≤ s.subsec.toNat + (1#10).toNat ∧ s.sec + 1 < 2 ^ s.cfg.secW := by decide

theorem witness_AdvAddsToTheClock_overflow :
    let s := stateAt .booting 255 500 true false true 0x00
    (500#10).toNat ≤ 999 ∧ s.subsec.toNat ≤ 999 ∧ s.inited = true ∧ timed s.state = true ∧
    1000 ≤ s.subsec.toNat + (500#10).toNat ∧ s.sec + 1 = 2 ^ s.cfg.secW := by decide

theorem witness_TooLongAdvIsRefused : 1000 ≤ (1000#10).toNat ∧ 1000 ≤ (1023#10).toNat := by decide

theorem witness_AdvanceWritesOnlyTheClock :
    advance 999 (stateAt .booting 0 999 true false false 0x01) = some (stateAt .booting 1 998 true false false 0x01) ∧
    advance 999 idle = some idle := by decide

theorem witness_CarryPastSecIsRefused_adv :
    let s := stateAt .shuttingDown 255 999 true true true 0x00
    (1#10).toNat ≤ 999 ∧ s.inited = true ∧ timed s.state = true ∧ 1000 ≤ s.subsec.toNat + (1#10).toNat ∧
    s.sec = 2 ^ s.cfg.secW - 1 := by decide

theorem witness_CarryPastSecIsRefused_tick :
    let b := stateAt .booting 255 800 true false true 0x00
    let d := stateAt .shuttingDown 255 500 true true true 0x00
    b.inited = true ∧ awake b ∧ b.sec = 2 ^ b.cfg.secW - 1 ∧ b.state = .booting ∧ 1000 ≤ b.subsec.toNat + b.cfg.bootTickMs ∧
    d.inited = true ∧ awake d ∧ d.sec = 2 ^ d.cfg.secW - 1 ∧ d.state = .shuttingDown ∧
    1000 ≤ d.subsec.toNat + d.cfg.shutdownTickMs :=
  ⟨rfl, ⟨rfl, rfl, rfl⟩, rfl, rfl, by decide, rfl, ⟨rfl, rfl, rfl⟩, rfl, rfl, by decide⟩

theorem witness_AccumulationLaw :
    let s := presented [0x83E7#16, 0x83E7#16, 0x83E7#16] booting
    (∀ d ∈ [999#10, 999#10, 999#10], d.toNat ≤ 999) ∧ s.inited = true ∧ timed s.state = true ∧ s.sec = 0 ∧ s.subsec = 0#10 ∧
    ([999#10, 999#10, 999#10].map BitVec.toNat).sum / 1000 < 2 ^ s.cfg.secW ∧
    s.agenda = ([999#10, 999#10, 999#10].map fun d => Event.op (encode (.adv d))) ++ [] := by decide

/-! ### The invariants of small states -/

/-- `Inv` of a state that waits for nothing. -/
theorem inv_of_awake {s : State} (h : s.cfg.Legal ∧ s.subsec.toNat ≤ 999 ∧ s.sec < 2 ^ s.cfg.secW)
    (ha : s.asleep = false ∧ s.sleepPending = false ∧ s.entryPending = none) : Inv s where
  legal := h.1
  subsec_le := h.2.1
  sec_lt := h.2.2
  sleepPending_race _ := ha.2.1
  entryPending_race _ := ha.2.2
  asleep_alone h := by rw [ha.1] at h; cases h
  sleepPending_alone _ := ha.2.2

theorem definedInv_off : DefinedInv off where
  inv := inv_of_awake (by decide) (by decide)
  inited := rfl
  flow := rfl
  known := by decide
  sec_booting := by decide
  sec_shuttingDown := by decide
  lines _ := ⟨rfl, rfl, rfl⟩

/-- `Booting` at the bound of SEC, with the word of INIT presented. -/
theorem definedInv_booting_40 : DefinedInv (presented [0xE000#16] (stateAt .booting 40 200 true false true 0x03)) where
  inv := inv_of_awake (by decide) (by decide)
  inited := rfl
  flow := by decide
  known := by decide
  sec_booting := by decide
  sec_shuttingDown := by decide
  lines _ := ⟨rfl, rfl⟩

/-- `ShuttingDown` at the bound of SEC. -/
theorem definedInv_shutting_39 : DefinedInv (stateAt .shuttingDown 39 500 true true true 0x00) where
  inv := inv_of_awake (by decide) (by decide)
  inited := rfl
  flow := rfl
  known := by decide
  sec_booting := by decide
  sec_shuttingDown := by decide
  lines _ := ⟨rfl, rfl⟩

/-- `Idle` with the button about to rise. -/
theorem definedInv_idle : DefinedInv (presented [0x4003#16] idle) where
  inv := inv_of_awake (by decide) (by decide)
  inited := rfl
  flow := by decide
  known := by decide
  sec_booting := by decide
  sec_shuttingDown := by decide
  lines _ := ⟨rfl, rfl, rfl⟩

theorem witness_CarryPastSecIsRefused_defined_flow :
    DefinedInv (presented [0xE000#16] (stateAt .booting 40 200 true false true 0x03)) ∧
    DefinedInv (stateAt .shuttingDown 39 500 true true true 0x00) := ⟨definedInv_booting_40, definedInv_shutting_39⟩

/-! ### Witnesses: TICK -/

theorem witness_TickInBooting_refused :
    let s := stateAt .booting 255 800 true false true 0x00
    let u := stateAt .booting 256 0 true false false 0x00
    Inv s ∧ awake s ∧ s.state = .booting ∧ u = { addClock s.cfg.bootTickMs s with outLed := !s.outLed } ∧ s.inited = true ∧
    2 ^ s.cfg.secW ≤ u.sec ∧ Inv (uninit s) ∧ (uninit s).inited = false :=
  ⟨inv_of_awake (by decide) (by decide), ⟨rfl, rfl, rfl⟩, rfl, by decide, rfl, by decide,
    inv_of_awake (by decide) (by decide), rfl⟩

theorem witness_TickInShuttingDown_refused :
    let s := stateAt .shuttingDown 255 500 true true true 0x00
    let u := stateAt .shuttingDown 256 0 true true false 0x00
    Inv s ∧ awake s ∧ s.state = .shuttingDown ∧ u = { addClock s.cfg.shutdownTickMs s with outLed := !s.outLed } ∧
    s.inited = true ∧ 2 ^ s.cfg.secW ≤ u.sec ∧ Inv (uninit s) ∧ (uninit s).inited = false :=
  ⟨inv_of_awake (by decide) (by decide), ⟨rfl, rfl, rfl⟩, rfl, by decide, rfl, by decide,
    inv_of_awake (by decide) (by decide), rfl⟩

/-- SEC one below BOOT_TIMEOUT after the tick. -/
theorem witness_TickInBooting_below :
    let s := stateAt .booting 39 600 true false false 0x00
    let u := stateAt .booting 39 800 true false true 0x00
    Inv s ∧ s.inited = true ∧ awake s ∧ s.state = .booting ∧ u = { addClock s.cfg.bootTickMs s with outLed := !s.outLed } ∧
    u.sec < 2 ^ s.cfg.secW ∧ u.sec < s.cfg.bootTimeout :=
  ⟨inv_of_awake (by decide) (by decide), rfl, ⟨rfl, rfl, rfl⟩, rfl, by decide, by decide, by decide⟩

/-- SEC at BOOT_TIMEOUT after the tick. -/
theorem witness_TickInBooting_timeout :
    let s := stateAt .booting 39 800 true false true 0x00
    let u := stateAt .booting 40 0 true false false 0x00
    Inv s ∧ s.inited = true ∧ awake s ∧ s.state = .booting ∧ u = { addClock s.cfg.bootTickMs s with outLed := !s.outLed } ∧
    u.sec < 2 ^ s.cfg.secW ∧ s.cfg.bootTimeout ≤ u.sec ∧ s.cfg.entryRace = false :=
  ⟨inv_of_awake (by decide) (by decide), rfl, ⟨rfl, rfl, rfl⟩, rfl, by decide, by decide, by decide, rfl⟩

theorem witness_TickInBooting_split :
    let s := entryRacing (stateAt .booting 39 800 true false true 0x00)
    let u := entryRacing (stateAt .booting 40 0 true false false 0x00)
    Inv s ∧ s.inited = true ∧ awake s ∧ s.state = .booting ∧ u = { addClock s.cfg.bootTickMs s with outLed := !s.outLed } ∧
    u.sec < 2 ^ s.cfg.secW ∧ s.cfg.bootTimeout ≤ u.sec ∧ s.cfg.entryRace = true :=
  ⟨inv_of_awake (by decide) (by decide), rfl, ⟨rfl, rfl, rfl⟩, rfl, by decide, by decide, by decide, rfl⟩

theorem witness_TickInShuttingDown_below :
    let s := stateAt .shuttingDown 39 0 true true false 0x00
    let u := stateAt .shuttingDown 39 500 true true true 0x00
    Inv s ∧ s.inited = true ∧ awake s ∧ s.state = .shuttingDown ∧
    u = { addClock s.cfg.shutdownTickMs s with outLed := !s.outLed } ∧ u.sec < 2 ^ s.cfg.secW ∧
    u.sec < s.cfg.shutdownTimeout :=
  ⟨inv_of_awake (by decide) (by decide), rfl, ⟨rfl, rfl, rfl⟩, rfl, by decide, by decide, by decide⟩

theorem witness_TickInShuttingDown_timeout :
    let s := stateAt .shuttingDown 39 500 true true true 0x00
    let u := stateAt .shuttingDown 40 0 true true false 0x00
    Inv s ∧ s.inited = true ∧ awake s ∧ s.state = .shuttingDown ∧
    u = { addClock s.cfg.shutdownTickMs s with outLed := !s.outLed } ∧ u.sec < 2 ^ s.cfg.secW ∧
    s.cfg.shutdownTimeout ≤ u.sec ∧ s.cfg.entryRace = false :=
  ⟨inv_of_awake (by decide) (by decide), rfl, ⟨rfl, rfl, rfl⟩, rfl, by decide, by decide, by decide, rfl⟩

theorem witness_TickInShuttingDown_split :
    let s := entryRacing (stateAt .shuttingDown 39 500 true true true 0x00)
    let u := entryRacing (stateAt .shuttingDown 40 0 true true false 0x00)
    Inv s ∧ s.inited = true ∧ awake s ∧ s.state = .shuttingDown ∧
    u = { addClock s.cfg.shutdownTickMs s with outLed := !s.outLed } ∧ u.sec < 2 ^ s.cfg.secW ∧
    s.cfg.shutdownTimeout ≤ u.sec ∧ s.cfg.entryRace = true :=
  ⟨inv_of_awake (by decide) (by decide), rfl, ⟨rfl, rfl, rfl⟩, rfl, by decide, by decide, by decide, rfl⟩

theorem witness_TickEntersSleep :
    idle.inited = true ∧ awake idle ∧ idle.state = .idle ∧ idle.cfg.sleepRace = false ∧
    (sleepRacing off).inited = true ∧ awake (sleepRacing off) ∧ (sleepRacing off).state = .poweredOff ∧
    (sleepRacing off).cfg.sleepRace = true ∧ awake (uninit off) ∧ (uninit off).inited = false ∧ exec .init idle = .next off :=
  ⟨rfl, ⟨rfl, rfl, rfl⟩, rfl, rfl, rfl, ⟨rfl, rfl, rfl⟩, rfl, rfl, ⟨rfl, rfl, rfl⟩, rfl, rfl⟩

theorem witness_TickInUnknownBlinksForEver :
    defective.inited = true ∧ awake defective ∧ defective.state = .unknown ∧ defective.agenda = [] ∧
    awake (uninit defective) ∧ (uninit defective).inited = false :=
  ⟨rfl, ⟨rfl, rfl, rfl⟩, rfl, rfl, ⟨rfl, rfl, rfl⟩, rfl⟩

theorem witness_TickHoldsWhileTheMainLineWaits :
    off.inited = true ∧ ¬ awake { off with asleep := true } ∧ ¬ awake { sleepRacing off with sleepPending := true } ∧
    ¬ awake { entryRacing off with entryPending := some (.poweredOff 0) } :=
  ⟨rfl, fun h => Bool.noConfusion h.1, fun h => Bool.noConfusion h.2.1, fun h => nomatch h.2.2⟩

theorem witness_TicksToATimeout :
    Inv booting ∧ booting.inited = true ∧ awake booting ∧ booting.agenda = [] ∧ booting.sec = 0 ∧ booting.subsec = 0#10 ∧
    booting.state = .booting ∧ 199 < ticksTo booting.cfg.bootTimeout booting.cfg.bootTickMs ∧
    200 = ticksTo booting.cfg.bootTimeout booting.cfg.bootTickMs ∧ booting.cfg.entryRace = false ∧
    Inv shutting ∧ shutting.inited = true ∧ awake shutting ∧ shutting.agenda = [] ∧ shutting.sec = 0 ∧
    shutting.subsec = 0#10 ∧ shutting.state = .shuttingDown ∧
    79 < ticksTo shutting.cfg.shutdownTimeout shutting.cfg.shutdownTickMs ∧
    80 = ticksTo shutting.cfg.shutdownTimeout shutting.cfg.shutdownTickMs ∧ shutting.cfg.entryRace = false :=
  ⟨inv_of_awake (by decide) (by decide), rfl, ⟨rfl, rfl, rfl⟩, rfl, rfl, rfl, rfl, by decide, by decide, rfl,
    inv_of_awake (by decide) (by decide), rfl, ⟨rfl, rfl, rfl⟩, rfl, rfl, rfl, rfl, by decide, by decide, rfl⟩

/-- 95_test_vectors.md V4: 134 ticks with BOOT_TICK_MS = 300, one with BOOT_TIMEOUT = 0. -/
theorem test_tick_counts : ticksTo 40 300 = 134 ∧ ticksTo 0 200 = 1 := by decide

/-- A shutdown of one second: two ticks, with samples around the first. -/
theorem witness_ShutdownEndsWhateverTheLinesDo :
    let s := { presented [0x4002#16, 0x2000#16, 0x4003#16, 0x2000#16] shutting with
      cfg := { Params.reference with shutdownTimeout := 1 } }
    let es := [edgeEvent 0x02#8, .op 0x2000#16, edgeEvent 0x03#8]
    Inv s ∧ s.inited = true ∧ awake s ∧ s.state = .shuttingDown ∧ s.sec = 0 ∧ s.subsec = 0#10 ∧ s.cfg.entryRace = false ∧
    (∀ e ∈ es, e = .op 0x2000#16 ∨ ∃ pins, e = edgeEvent pins) ∧ s.agenda = es ++ [.op 0x2000#16] ∧
    2 = ticksTo s.cfg.shutdownTimeout s.cfg.shutdownTickMs ∧ es.count (.op 0x2000#16) < 2 ∧
    es.count (.op 0x2000#16) + 1 = 2 := by
  refine ⟨inv_of_awake (by decide) (by decide), rfl, ⟨rfl, rfl, rfl⟩, rfl, rfl, rfl, rfl, ?_, by decide, by decide, by decide,
    by decide⟩
  intro e he
  simp only [List.mem_cons, List.not_mem_nil, or_false] at he
  obtain rfl | rfl | rfl := he
  · exact .inr ⟨_, rfl⟩
  · exact .inl rfl
  · exact .inr ⟨_, rfl⟩

theorem witness_QuiescentUntilSomethingIsPresented :
    off.inited = true ∧ quiescent { off with asleep := true } = true ∧ off.agenda = [] := by decide

/-! ### Witnesses: EDGE -/

theorem witness_RisingMeansChangedAndSet :
    (7 : Nat) < 8 ∧ exec (.edge 0x01) off = .next booting ∧ exec .init booting = .next off := ⟨by decide, rfl, rfl⟩

theorem witness_ButtonInPoweredOffBoots :
    off.inited = true ∧ off.state = .poweredOff ∧ (0xFD#8).getLsbD 0 = true ∧ off.snap.getLsbD 0 = false := by decide

theorem witness_ButtonInIdleShutsDown :
    (presented [0x4003#16] idle).inited = true ∧ (presented [0x4003#16] idle).state = .idle ∧ (0x01#8).getLsbD 0 = true ∧
    (presented [0x4003#16] idle).snap.getLsbD 0 = false ∧ DefinedInv (presented [0x4003#16] idle) ∧
    (presented [0x4003#16] idle).cfg.entryRace = false := ⟨rfl, rfl, by decide, by decide, definedInv_idle, rfl⟩

theorem witness_HostReadyInBootingSetsSec :
    let u := stateAt .booting 40 0 true false false 0x03
    booting.inited = true ∧ booting.cfg.Legal ∧ booting.state = .booting ∧ (0x03#8).getLsbD 1 = true ∧
    booting.snap.getLsbD 1 = false ∧ u = { booting with snap := 0x03, asleep := false, sec := booting.cfg.bootTimeout } ∧
    booting.subsec.toNat ≤ 999 ∧ booting.sleepPending = false ∧ booting.entryPending = none := by decide

/-- Host-ready rises in `PoweredOff`; the button rises in `Booting`; both fall; nothing changed; both rise in `Unknown`. -/
theorem witness_OtherEdgesOnlyRecordAndWake :
    let ok := fun (s : State) (pins : Byte) =>
      s.inited = true ∧ ¬ (s.state = .booting ∧ pins.getLsbD 1 = true ∧ s.snap.getLsbD 1 = false) ∧
      ¬ ((s.state = .idle ∨ s.state = .poweredOff) ∧ pins.getLsbD 0 = true ∧ s.snap.getLsbD 0 = false)
    ok off 0x02#8 ∧ ok (stateAt .booting 7 400 true false true 0x02) 0x03#8 ∧ ok shutting 0x00#8 ∧ ok idle 0x02#8 ∧
    ok defective 0x03#8 := by decide

theorem witness_EveryEdgeWakesTheMainLine :
    idle.inited = true ∧ idle.state = .idle ∧ idle.sleepPending = false ∧ idle.entryPending = none ∧
    idle.cfg.sleepRace = false ∧ (sleepRacing off).inited = true ∧ (sleepRacing off).state = .poweredOff ∧
    (sleepRacing off).sleepPending = false ∧ (sleepRacing off).entryPending = none ∧
    (sleepRacing off).cfg.sleepRace = true := by decide

theorem witness_HostReadyEndsTheBootAtTheNextTick :
    Inv booting ∧ booting.inited = true ∧ booting.state = .booting ∧ booting.sleepPending = false ∧
    booting.entryPending = none ∧ booting.cfg.entryRace = false ∧ (0x03#8).getLsbD 1 = true ∧
    booting.snap.getLsbD 1 = false :=
  ⟨inv_of_awake (by decide) (by decide), rfl, rfl, rfl, rfl, rfl, by decide, by decide⟩

/-- V5, bounce: the state has changed after the first of three samples. -/
theorem witness_BounceChangesStateAtMostOnce :
    let s := presented [0x4001#16, 0x4000#16, 0x4001#16] off
    s.inited = true ∧ s.agenda = [0x01#8, 0x00#8, 0x01#8].map edgeEvent ++ [] ∧ 1 ≤ 3 ∧
    3 ≤ [0x01#8, 0x00#8, 0x01#8].length ∧ (nextOf (runSteps 1 s)).map State.state = some .booting := by decide

/-! ### Witnesses: the races -/

theorem witness_SplitSleepSleepsAfterTheEdges :
    let s := { sleepRacing idle with agenda := .op 0x2000#16 :: ([0x03#8].map edgeEvent ++ .mainLine :: [.op 0x2000#16]) }
    s.inited = true ∧ awake s ∧ s.cfg.sleepRace = true ∧ s.state = .idle ∧
    s.agenda = .op 0x2000#16 :: ([0x03#8].map edgeEvent ++ .mainLine :: .op 0x2000#16 :: []) ∧
    ({ sleepRacing shutting with sleepPending := true } : State).inited = true ∧
    ({ sleepRacing shutting with sleepPending := true } : State).sleepPending = true :=
  ⟨rfl, ⟨rfl, rfl, rfl⟩, rfl, rfl, rfl, rfl, rfl⟩

theorem witness_EntryStepPerformsOneWrite :
    let s := fun p => { entryRacing off with entryPending := some p }
    (∀ p, (s p).agenda = [] ∧ s p = s p ∧ (s p).sleepPending = false ∧ (s p).entryPending = some p) ∧
    exec (.edge 0x01) (s (.poweredOff 0)) = .next { entryRacing booting with entryPending := some (.poweredOff 0) } :=
  ⟨fun _ => ⟨rfl, rfl, rfl, rfl⟩, rfl⟩

/-- V4, races: an EDGE stands between two ENTRY_STEPs. -/
theorem witness_EntryStepPerformsOneWrite_between_edges :
    let s := fun p => { entryRacing off with entryPending := some p, agenda := [.mainLine, edgeEvent 0x01, .mainLine] }
    ∀ p, (s p).agenda = .mainLine :: [edgeEvent 0x01, .mainLine] ∧ (s p).sleepPending = false ∧ (s p).entryPending = some p :=
  fun _ => ⟨rfl, rfl, rfl⟩

theorem witness_SplitTimeoutEndsAsTheWholeOne_boot :
    let s := entryRacing (stateAt .booting 39 800 true false true 0x00)
    let t := stateAt .idle 40 0 true false true 0x00
    Inv s ∧ s.inited = true ∧ awake s ∧ s.agenda = [] ∧ s.cfg.entryRace = true ∧
    exec .tick { s with cfg := { s.cfg with entryRace := false } } = .next t ∧ s.state = .booting ∧ t.state = .idle :=
  ⟨inv_of_awake (by decide) (by decide), rfl, ⟨rfl, rfl, rfl⟩, rfl, rfl, rfl, rfl, rfl⟩

theorem witness_SplitTimeoutEndsAsTheWholeOne_shutdown :
    let s := entryRacing (stateAt .shuttingDown 39 500 true true true 0x00)
    let t := stateAt .poweredOff 40 0 false false false 0x00
    Inv s ∧ s.inited = true ∧ awake s ∧ s.agenda = [] ∧ s.cfg.entryRace = true ∧
    exec .tick { s with cfg := { s.cfg with entryRace := false } } = .next t ∧ s.state = .shuttingDown ∧
    t.state = .poweredOff :=
  ⟨inv_of_awake (by decide) (by decide), rfl, ⟨rfl, rfl, rfl⟩, rfl, rfl, rfl, rfl, rfl⟩

/-! ### Witnesses: the invariants and the whole-machine rules -/

/-- A state outside every defined flow meets `Inv` and steps. -/
theorem witness_StepKeepsTheInvariant :
    Inv defective ∧ step defective = .next defective := ⟨inv_of_awake (by decide) (by decide), rfl⟩

theorem witness_DefinedFlowKeepsItsInvariant :
    DefinedInv (stateAt .shuttingDown 39 500 true true true 0x00) ∧
    step (stateAt .shuttingDown 39 500 true true true 0x00) = .next (stateAt .poweredOff 40 0 false false false 0x00) :=
  ⟨definedInv_shutting_39, rfl⟩

theorem witness_DefinedFlowAlwaysGoesOn : DefinedInv off := definedInv_off

theorem witness_InitStartsADefinedFlow :
    (presented [0xE000#16, 0x2000#16, 0x40FF#16] (uninit defective)).cfg.Legal ∧
    (presented [0xE000#16, 0x2000#16, 0x40FF#16] (uninit defective)).agenda = .op 0xE000#16 :: [.op 0x2000#16, .op 0x40FF#16] ∧
    [Event.op 0x2000#16, .op 0x40FF#16].all Event.inDefinedFlow = true := by decide

/-- STATE changes by INIT, by an EDGE and by a TICK. -/
theorem witness_DefinedFlowTransitions :
    (DefinedInv (presented [0xE000#16] (stateAt .booting 40 200 true false true 0x03)) ∧
      step (presented [0xE000#16] (stateAt .booting 40 200 true false true 0x03)) = .next off ∧
      off.state ≠ .booting) ∧
    (DefinedInv (presented [0x4003#16] idle) ∧ step (presented [0x4003#16] idle) = .next shutting ∧
      shutting.state ≠ idle.state) ∧
    (DefinedInv (stateAt .shuttingDown 39 500 true true true 0x00) ∧
      step (stateAt .shuttingDown 39 500 true true true 0x00) = .next (stateAt .poweredOff 40 0 false false false 0x00) ∧
      (stateAt .poweredOff 40 0 false false false 0x00).state ≠ .shuttingDown) :=
  ⟨⟨definedInv_booting_40, rfl, by decide⟩, ⟨definedInv_idle, rfl, by decide⟩, ⟨definedInv_shutting_39, rfl, by decide⟩⟩

/-- Each element is changed by some operation. -/
theorem witness_WritersOfEachElement :
    exec (.edge 0x03) idle = .next shutting ∧ shutting.state ≠ idle.state ∧ shutting.subsec ≠ idle.subsec ∧
    shutting.sec ≠ idle.sec ∧ shutting.snap ≠ idle.snap ∧ shutting.outShdn ≠ idle.outShdn ∧ shutting.outLed ≠ idle.outLed ∧
    exec (.edge 0x01) off = .next booting ∧ booting.outPwr ≠ off.outPwr ∧
    exec .tick off = .next { off with asleep := true } ∧ ({ off with asleep := true } : State).asleep ≠ off.asleep ∧
    exec .init (uninit off) = .next off ∧ off.inited ≠ (uninit off).inited ∧
    exec .tick (sleepRacing off) = .next { sleepRacing off with sleepPending := true } ∧
    ({ sleepRacing off with sleepPending := true } : State).sleepPending ≠ (sleepRacing off).sleepPending ∧
    exec .init { entryRacing off with entryPending := some .idle } = .next (entryRacing off) ∧
    (entryRacing off).entryPending ≠ some .idle :=
  ⟨rfl, by decide, by decide, by decide, by decide, by decide, by decide, rfl, by decide, rfl, by decide, rfl, by decide, rfl,
    by decide, rfl, by decide⟩

theorem witness_FrozenClockIsInert :
    timed off.state = false ∧ timed (uninit off).state = false ∧
    exec .tick (uninit off) = .refused (.notInitialised 0x2000#16) ∧ exec (.edge 0x01) off = .next booting ∧
    timed booting.state = true ∧ step idle = .next { idle with asleep := true } := ⟨rfl, rfl, rfl, rfl, rfl, rfl⟩

/-- The widest SEC the layout has room for, at its highest value. -/
theorem witness_ObservationWordsLayout :
    let s := { stateAt .booting 4194303 999 true false false 0x00 with cfg := { Params.reference with secW := 22 } }
    s.cfg.secW ≤ 22 ∧ s.sec < 2 ^ s.cfg.secW := by decide

theorem witness_NominalDurations :
    booting.state = .booting ∧ shutting.state = .shuttingDown ∧ defective.state = .unknown ∧ idle.state = .idle ∧
    off.state = .poweredOff := by decide

end Sys2Proof.Tests
end

section
/-! PROOFS. R26: outside a timed state the clock is inert. -/

namespace Sys2Proof.Machine

/-! ### States that differ in the clock only -/

/-- The state with another clock: what the two runs of the noninterference statement of R26 differ in. -/
def withClock (c : Nat) (m : BitVec 10) (s : State) : State := { s with sec := c, subsec := m }

@[simp] theorem withClock_state (c : Nat) (m : BitVec 10) (s : State) : (withClock c m s).state = s.state := rfl
@[simp] theorem withClock_inited (c : Nat) (m : BitVec 10) (s : State) : (withClock c m s).inited = s.inited := rfl
@[simp] theorem held_withClock (c : Nat) (m : BitVec 10) (s : State) : held (withClock c m s) = held s := rfl

@[simp] theorem tickSleep_withClock (c : Nat) (m : BitVec 10) (s : State) :
    tickSleep (withClock c m s) = withClock c m (tickSleep s) := by
  simp only [tickSleep, apply_ite (withClock c m)]
  rfl

@[simp] theorem tickSleep_state (s : State) : (tickSleep s).state = s.state := by
  unfold tickSleep
  split <;> rfl

/-- Entry to a timed state forgets what the clock was. -/
theorem transition_withClock_of_timed (c : Nat) (m : BitVec 10) (s : State) :
    ∀ {st : SupervisorState}, timed st = true → transition st (withClock c m s) = transition st s
  | .booting, _ => rfl
  | .shuttingDown, _ => rfl

/-- Entry to any other state carries the clock along. -/
theorem transition_withClock_of_not_timed (c : Nat) (m : BitVec 10) (s : State) :
    ∀ {st : SupervisorState}, timed st = false → transition st (withClock c m s) = withClock c m (transition st s)
  | .unknown, _ => rfl
  | .idle, _ => rfl
  | .poweredOff, _ => rfl

theorem transition_clock_of_timed (s : State) :
    ∀ {st : SupervisorState}, timed st = true → (transition st s).sec = 0 ∧ (transition st s).subsec = 0#10
  | .booting, _ => ⟨rfl, rfl⟩
  | .shuttingDown, _ => ⟨rfl, rfl⟩

theorem advance_of_not_timed {s : State} (h : timed s.state = false) (d : Nat) : advance d s = some s := by
  simp [advance, h]

/-- The host-ready rule acts in `Booting` only (R134), which is timed. -/
theorem readyRule_of_not_timed {s : State} (h : timed s.state = false) : readyRule s = s := by
  cases hs : s.state with
  | booting => simp [hs, timed] at h
  | unknown | idle | shuttingDown | poweredOff => simp [readyRule, hs]

theorem edgeDetect_of_not_timed {s : State} (h : timed s.state = false) (pins : Byte) :
    edgeDetect pins s =
      if buttonRises pins s.snap then buttonRule (wake (recordSample pins s)) else wake (recordSample pins s) := by
  have hr : readyRule (wake (recordSample pins s)) = wake (recordSample pins s) := readyRule_of_not_timed h
  simp only [edgeDetect, hr, ite_self]

/-- The observation shows no clock outside a timed state. -/
theorem observe_withClock {s : State} (h : timed s.state = false) (c : Nat) (m : BitVec 10) :
    observe (withClock c m s) = observe s := by
  simp only [observe, withClock_state, h]
  rfl

/-! ### What an operation does with a frozen clock -/

/-- The ways an operation can treat the clock of `s`, each said for all clocks at once. -/
inductive ClockInert (i : Instr) (s : State) : Prop
  /-- It is refused, whatever the clock is. -/
  | refuses (r : Refusal) (heq : ∀ c m, exec i (withClock c m s) = .refused r)
  /-- It leaves the clock as it is and enters no timed state. -/
  | keeps (t : State) (ht : timed t.state = false) (heq : ∀ c m, exec i (withClock c m s) = .next (withClock c m t))
  /-- It clears the clock, being INIT or entering a timed state, and answers one state from every clock. -/
  | clears (t : State) (ht : i = .init ∨ timed t.state = true) (hzero : t.sec = 0 ∧ t.subsec = 0#10)
      (heq : ∀ c m, exec i (withClock c m s) = .next t)

namespace ClockInert

variable {i : Instr} {s : State}

/-- The guard on INITED does not read the clock (R181). -/
theorem of_guarded {body : State → Host.Outcome State Fault Refusal}
    (hexec : ∀ u, exec i u = requireInit i u (body u)) (h : s.inited = true → ClockInert i s) : ClockInert i s := by
  cases hi : s.inited with
  | true => exact h hi
  | false => exact .refuses _ fun c m => by rw [hexec]; exact requireInit_of_not_inited hi

/-- The five TRANS. -/
theorem of_transition {st : SupervisorState}
    (hexec : ∀ u, exec i u = requireInit i u (.next (transition st u))) : ClockInert i s := by
  refine of_guarded hexec fun hi => ?_
  have hrun (c : Nat) (m : BitVec 10) : exec i (withClock c m s) = .next (transition st (withClock c m s)) :=
    (hexec _).trans (requireInit_of_inited hi)
  cases ht : timed st with
  | true =>
    refine .clears (transition st s) (.inr (by simpa using ht)) (transition_clock_of_timed s ht) fun c m => ?_
    rw [hrun, transition_withClock_of_timed c m s ht]
  | false =>
    refine .keeps (transition st s) (by simpa using ht) fun c m => ?_
    rw [hrun, transition_withClock_of_not_timed c m s ht]

/-- Outside a timed state TICK sleeps or blinks, and does nothing where it is held. -/
theorem tick (h : timed s.state = false) : ClockInert .tick s := by
  refine of_guarded (fun _ => rfl) fun hi => ?_
  cases hh : held s with
  | true => exact .keeps s h fun c m => by simp [exec, execTick, hi, hh]
  | false =>
    cases hs : s.state with
    | unknown => exact .keeps s h fun c m => by simp [exec, execTick, tickAction, hi, hh, hs]
    | idle | poweredOff =>
      exact .keeps (tickSleep s) (by simpa using h) fun c m => by simp [exec, execTick, tickAction, hi, hh, hs]
    | booting | shuttingDown => simp [hs, timed] at h

/-- Outside a timed state EDGE starts a boot or a shutdown by the button, or only records the sample and wakes. -/
theorem edge (h : timed s.state = false) (pins : Byte) : ClockInert (.edge pins) s := by
  refine of_guarded (fun _ => rfl) fun hi => ?_
  have hrun (c : Nat) (m : BitVec 10) : exec (.edge pins) (withClock c m s) =
      .next (if buttonRises pins s.snap then buttonRule (withClock c m (wake (recordSample pins s)))
        else withClock c m (wake (recordSample pins s))) := by
    rw [exec_edge_inited (s := withClock c m s) hi, edgeDetect_of_not_timed (s := withClock c m s) h]
    rfl
  cases hb : buttonRises pins s.snap with
  | false => exact .keeps (wake (recordSample pins s)) h fun c m => by simp [hrun, hb]
  | true =>
    cases hs : s.state with
    | unknown => exact .keeps (wake (recordSample pins s)) h fun c m => by simp [hrun, hb, buttonRule, hs]
    | idle =>
      refine .clears (transition .shuttingDown (wake (recordSample pins s))) (.inr rfl) ⟨rfl, rfl⟩ fun c m => ?_
      simp [hrun, hb, buttonRule, hs, transition_withClock_of_timed c m _ (st := .shuttingDown) rfl]
    | poweredOff =>
      refine .clears (transition .booting (wake (recordSample pins s))) (.inr rfl) ⟨rfl, rfl⟩ fun c m => ?_
      simp [hrun, hb, buttonRule, hs, transition_withClock_of_timed c m _ (st := .booting) rfl]
    | booting | shuttingDown => simp [hs, timed] at h

/-- Outside a timed state ADV changes nothing, and its refusals do not read the clock. -/
theorem adv (h : timed s.state = false) (dur : BitVec 10) : ClockInert (.adv dur) s := by
  cases hd : durationLegal dur with
  | false => exact .refuses (.illegalWord (encode (.adv dur))) fun c m => by simp [exec, execAdv, hd]
  | true =>
    cases hi : s.inited with
    | false => exact .refuses (.notInitialised (encode (.adv dur))) fun c m => by simp [exec, execAdv, hd, hi]
    | true =>
      refine .keeps s h fun c m => ?_
      have ha : advance (durationMs dur) (withClock c m s) = some (withClock c m s) :=
        advance_of_not_timed (s := withClock c m s) h _
      simp [exec, execAdv, hd, hi, ha]

/-- INIT clears the clock in every state. -/
theorem init : ClockInert .init s :=
  .clears (transition .poweredOff (clearForInit s)) (.inl rfl) ⟨rfl, rfl⟩ fun _ _ => rfl

/-- Every operation. -/
theorem of_not_timed (i : Instr) (h : timed s.state = false) : ClockInert i s :=
  match i with
  | .tick => tick h
  | .edge pins => edge h pins
  | .transUnknown => of_transition (st := .unknown) fun _ => rfl
  | .transBooting => of_transition (st := .booting) fun _ => rfl
  | .transIdle => of_transition (st := .idle) fun _ => rfl
  | .transShuttingDown => of_transition (st := .shuttingDown) fun _ => rfl
  | .transPoweredOff => of_transition (st := .poweredOff) fun _ => rfl
  | .adv dur => adv h dur
  | .init => init

theorem refused (h : ClockInert i s) {r : Refusal} (he : exec i s = .refused r) (c : Nat) (m : BitVec 10) :
    exec i (withClock c m s) = .refused r := by
  obtain ⟨r', heq⟩ | ⟨t, -, heq⟩ | ⟨t, -, -, heq⟩ := h <;> cases he.symm.trans (heq s.sec s.subsec)
  exact heq c m

/-- A next state differs between two clocks in the clock alone, and in a timed state not even there. -/
theorem next_withClock (h : ClockInert i s) {t : State} (he : exec i s = .next t) (c : Nat) (m : BitVec 10) :
    ∃ t', exec i (withClock c m s) = .next t' ∧ t = withClock t.sec t.subsec t' ∧ (timed t.state = true → t' = t) := by
  obtain ⟨r, heq⟩ | ⟨u, hu, heq⟩ | ⟨u, -, -, heq⟩ := h <;> cases he.symm.trans (heq s.sec s.subsec)
  · exact ⟨withClock c m u, heq c m, rfl, fun ht => absurd ht (by simp [hu])⟩
  · exact ⟨t, heq c m, rfl, fun _ => rfl⟩

theorem next_clock (h : ClockInert i s) {t : State} (he : exec i s = .next t) :
    t.sec = s.sec ∧ t.subsec = s.subsec ∨ (i = .init ∨ timed t.state = true) ∧ t.sec = 0 ∧ t.subsec = 0#10 := by
  obtain ⟨r, heq⟩ | ⟨u, hu, heq⟩ | ⟨u, hu, hzero, heq⟩ := h <;> cases he.symm.trans (heq s.sec s.subsec)
  · exact .inl ⟨rfl, rfl⟩
  · exact .inr ⟨hu, hzero⟩

end ClockInert

/-! ### The step -/

@[simp] theorem entryStep_sec (p : EntryPos) (s : State) : (entryStep p s).sec = s.sec := by simp [entryStep]
@[simp] theorem entryStep_subsec (p : EntryPos) (s : State) : (entryStep p s).subsec = s.subsec := by simp [entryStep]

theorem exec_keeps_or_clears_clock {i : Instr} {s t : State} (h : timed s.state = false) (he : exec i s = .next t) :
    t.sec = s.sec ∧ t.subsec = s.subsec ∨ t.sec = 0 ∧ t.subsec = 0#10 :=
  ((ClockInert.of_not_timed i h).next_clock he).imp_right And.right

theorem mainLineTurn_keeps_or_clears_clock {s t : State} (h : timed s.state = false) (hm : mainLineTurn s = .next t) :
    t.sec = s.sec ∧ t.subsec = s.subsec ∨ t.sec = 0 ∧ t.subsec = 0#10 := by
  obtain ⟨-, rfl⟩ | ⟨p, -, -, rfl⟩ | ⟨-, -, htick⟩ := mainLineTurn_cases hm
  · exact .inl ⟨rfl, rfl⟩
  · simp
  · exact exec_keeps_or_clears_clock (i := .tick) h htick

theorem step_keeps_or_clears_clock {s t : State} (h : timed s.state = false) (hstep : step s = .next t) :
    t.sec = s.sec ∧ t.subsec = s.subsec ∨ t.sec = 0 ∧ t.subsec = 0#10 := by
  obtain ⟨-, hm⟩ | ⟨w, i, rest, -, -, he⟩ := step_cases hstep
  · exact mainLineTurn_keeps_or_clears_clock (s := { s with agenda := s.agenda.tail }) h hm
  · exact exec_keeps_or_clears_clock (s := { s with agenda := rest }) h he

/-- Settles O50: every operation treats all clocks alike (`ClockInert.of_not_timed`), and every step runs an operation or
one of the main line's own two steps, which keep the clock. -/
theorem frozenClockIsInert : Obligations.FrozenClockIsInert := by
  intro i s c m h
  have hi : ClockInert i s := .of_not_timed i h
  exact ⟨fun r he => hi.refused he c m, fun t he => ⟨hi.next_withClock he c m, hi.next_clock he⟩,
    fun t => step_keeps_or_clears_clock h, observe_withClock h c m⟩

end Sys2Proof.Machine
end

section
/-! PROOFS. R62 to R66: which words are illegal, format by format, and that a step refuses each of them. -/

namespace Sys2Proof

/-! ### The format an opcode selects -/

theorem decode_of_op_tick {w : Word} (h : opField w = 1#3) : decode w = decodeT .tick w := by
  simp [decode, h]

theorem decode_of_op_edge {w : Word} (h : opField w = 2#3) : decode w = decodeE w := by
  simp [decode, h]

theorem decode_of_op_trans {w : Word} (h : opField w = 3#3) : decode w = decodeS w := by
  simp [decode, h]

theorem decode_of_op_adv {w : Word} (h : opField w = 4#3) : decode w = decodeA w := by
  simp [decode, h]

theorem decode_of_op_init {w : Word} (h : opField w = 7#3) : decode w = decodeT .init w := by
  simp [decode, h]

theorem decode_of_op_reserved {w : Word} (h : opField w = 0#3 ∨ opField w = 5#3 ∨ opField w = 6#3) :
    decode w = .illegal .reservedOpcode := by
  obtain h | h | h := h <;> simp [decode, h]

/-- The opcodes, each with the format that reads it (R56, R63). -/
theorem opField_cases (w : Word) :
    opField w = 1#3 ∨ opField w = 2#3 ∨ opField w = 3#3 ∨ opField w = 4#3 ∨ opField w = 7#3 ∨
      (opField w = 0#3 ∨ opField w = 5#3 ∨ opField w = 6#3) := by
  generalize opField w = op
  revert op
  decide

/-! ### What each format rejects -/

theorem decodeT_illegal_iff (i : Instr) (w : Word) :
    (∃ why, decodeT i w = .illegal why) ↔ w.extractLsb' 0 13 ≠ 0#13 := by
  unfold decodeT
  split <;> simp [*]

theorem decodeE_illegal_iff (w : Word) : (∃ why, decodeE w = .illegal why) ↔ w.extractLsb' 8 5 ≠ 0#5 := by
  unfold decodeE
  split <;> simp [*]

/-- Format S rejects a reserved bit (R62) and a code that names no state (R64). -/
theorem decodeS_illegal_iff (w : Word) :
    (∃ why, decodeS w = .illegal why) ↔ w.extractLsb' 3 10 ≠ 0#10 ∨ 4 < (w.extractLsb' 0 3).toNat := by
  unfold decodeS
  split
  case isFalse hbits => simp [hbits]
  case isTrue hbits =>
    split
    case h_6 h0 h1 h2 h3 h4 =>
      rw [imp_false] at h0 h1 h2 h3 h4
      exact iff_of_true ⟨_, rfl⟩ (.inr (by omega))
    all_goals simp [*]

/-- Format A rejects a reserved bit (R62) and a duration above 999 (R65). -/
theorem decodeA_illegal_iff (w : Word) :
    (∃ why, decodeA w = .illegal why) ↔ w.extractLsb' 10 3 ≠ 0#3 ∨ 1000 ≤ (w.extractLsb' 0 10).toNat := by
  unfold decodeA
  split
  case isFalse hbits => simp [hbits]
  case isTrue hbits =>
    split
    case isTrue hdur => exact iff_of_false (by simp) (not_or.mpr ⟨not_not_intro hbits, by omega⟩)
    case isFalse hdur => exact iff_of_true ⟨_, rfl⟩ (.inr (by omega))

/-- The illegal words of R62 to R65: the opcode selects the format, and the format says what it rejects. -/
theorem decode_illegal_iff (w : Word) :
    (((opField w = 1#3 ∨ opField w = 7#3) ∧ w.extractLsb' 0 13 ≠ 0#13) ∨ (opField w = 2#3 ∧ w.extractLsb' 8 5 ≠ 0#5) ∨
        (opField w = 3#3 ∧ w.extractLsb' 3 10 ≠ 0#10) ∨ (opField w = 4#3 ∧ w.extractLsb' 10 3 ≠ 0#3) ∨
        (opField w = 0#3 ∨ opField w = 5#3 ∨ opField w = 6#3) ∨
        (opField w = 3#3 ∧ 4 < (w.extractLsb' 0 3).toNat) ∨ (opField w = 4#3 ∧ 1000 ≤ (w.extractLsb' 0 10).toNat)) ↔
      ∃ why, decode w = .illegal why := by
  obtain h | h | h | h | h | h := opField_cases w
  · rw [decode_of_op_tick h, decodeT_illegal_iff]
    simp [h]
  · rw [decode_of_op_edge h, decodeE_illegal_iff]
    simp [h]
  · rw [decode_of_op_trans h, decodeS_illegal_iff]
    simp [h]
  · rw [decode_of_op_adv h, decodeA_illegal_iff]
    simp [h]
  · rw [decode_of_op_init h, decodeT_illegal_iff]
    simp [h]
  · rw [decode_of_op_reserved h]
    simp [h]

end Sys2Proof

namespace Sys2Proof.Machine

theorem step_illegal {w : Word} {why : Illegal} {s : State} {rest : List Event} (hw : decode w = .illegal why)
    (hs : s.agenda = .op w :: rest) : step s = .refused (.illegalWord w) := by
  rw [step_cons hs, perform, performWord_illegal hw]

/-- Settles O2: `decode_illegal_iff` lists the illegal words, and `step_illegal` refuses each. -/
theorem illegalWordsAreRefused : Obligations.IllegalWordsAreRefused := fun w =>
  ⟨decode_illegal_iff w, fun _ _ _ => step_illegal⟩

end Sys2Proof.Machine
end

section
/-! PROOFS. R82: TRANS performs the transition to its state, and before INIT it is refused (R181). -/

namespace Sys2Proof.Machine

/-- The five TRANS as one family: the operation that names the state. -/
def transOp : SupervisorState → Instr
  | .unknown => .transUnknown
  | .booting => .transBooting
  | .idle => .transIdle
  | .shuttingDown => .transShuttingDown
  | .poweredOff => .transPoweredOff

/-- Format S holds the code of the state (R59). -/
theorem encode_transOp (st : SupervisorState) : encode (transOp st) = 0b011#3 ++ 0#10 ++ st.code := by
  cases st <;> rfl

theorem exec_transOp (st : SupervisorState) (s : State) :
    exec (transOp st) s = requireInit (transOp st) s (.next (transition st s)) := by
  cases st <;> rfl

theorem exec_transOp_of_inited (st : SupervisorState) {s t : State} (hi : s.inited = true) (ht : transition st s = t) :
    exec (transOp st) s = .next t := by
  rw [exec_transOp, requireInit_of_inited hi, ht]

theorem exec_transOp_of_not_inited (st : SupervisorState) {s : State} (hi : s.inited = false) :
    exec (transOp st) s = .refused (.notInitialised (0b011#3 ++ 0#10 ++ st.code)) := by
  rw [exec_transOp, requireInit_of_not_inited hi, encode_transOp]

/-- Settles O16: TRANS is `transition` under the guard on INITED, and the laws of `transition` say what each entry writes. -/
theorem transPerformsTheTransition : Obligations.TransPerformsTheTransition := fun s =>
  ⟨fun hi =>
    ⟨exec_transOp_of_inited .unknown hi (transition_unknown s), exec_transOp_of_inited .booting hi (transition_booting s),
      exec_transOp_of_inited .idle hi (transition_idle s),
      exec_transOp_of_inited .shuttingDown hi (transition_shuttingDown s),
      exec_transOp_of_inited .poweredOff hi (transition_poweredOff s)⟩,
    fun hi =>
    ⟨exec_transOp_of_not_inited .unknown hi, exec_transOp_of_not_inited .booting hi, exec_transOp_of_not_inited .idle hi,
      exec_transOp_of_not_inited .shuttingDown hi, exec_transOp_of_not_inited .poweredOff hi⟩⟩

end Sys2Proof.Machine
end

section
/-! PROOFS. R101, R103 and R105: what `Advance` and ADV do with the clock, and that a carry past SEC is refused, and never met
in a defined flow. -/

namespace Sys2Proof.Machine

/-! ### Advance -/

theorem advance_of_no_carry {d : Nat} {s : State} (ht : timed s.state = true) (hd : s.subsec.toNat + d < 1000) :
    advance d s = some { s with subsec := BitVec.ofNat 10 (s.subsec.toNat + d) } := by
  rw [advance, if_pos ht, if_neg (by omega)]

theorem advance_of_carry {d : Nat} {s : State} (ht : timed s.state = true) (hd : 1000 ≤ s.subsec.toNat + d)
    (hs : s.sec + 1 < 2 ^ s.cfg.secW) :
    advance d s = some { s with sec := s.sec + 1, subsec := BitVec.ofNat 10 (s.subsec.toNat + d - 1000) } := by
  rw [advance, if_pos ht, if_pos hd, if_neg (by omega)]

theorem advance_of_overflow {d : Nat} {s : State} (ht : timed s.state = true) (hd : 1000 ≤ s.subsec.toNat + d)
    (hs : 2 ^ s.cfg.secW ≤ s.sec + 1) : advance d s = none := by
  rw [advance, if_pos ht, if_pos hd, if_pos hs]

/-- Settles O21: in each of the cases of `advance_cases` the next state is written as an update of the clock. -/
theorem advanceWritesOnlyTheClock : Obligations.AdvanceWritesOnlyTheClock := by
  intro d s t h
  obtain ⟨-, rfl⟩ | ⟨-, -, rfl⟩ | ⟨-, -, -, rfl⟩ := advance_cases h <;> rfl

/-! ### ADV: with a legal duration it is `Advance` under the guard on INITED -/

section
variable {dur : BitVec 10} {s : State} (hd : dur.toNat ≤ 999)
include hd

theorem exec_adv_of_not_inited (hi : s.inited = false) :
    exec (.adv dur) s = .refused (.notInitialised (encode (.adv dur))) := by
  simp [exec, execAdv, durationLegal, durationMs, hd, hi]

theorem exec_adv_of_advance_some {t : State} (hi : s.inited = true) (ha : advance dur.toNat s = some t) :
    exec (.adv dur) s = .next t := by
  simp [exec, execAdv, durationLegal, durationMs, hd, hi, ha]

theorem exec_adv_of_advance_none (hi : s.inited = true) (ha : advance dur.toNat s = none) :
    exec (.adv dur) s = .refused (.accOverflow (encode (.adv dur))) := by
  simp [exec, execAdv, durationLegal, durationMs, hd, hi, ha]

end

/-- Settles O19: ADV answers what `Advance` does, in each of its cases. -/
theorem advAddsToTheClock : Obligations.AdvAddsToTheClock := fun _ _ hd _ =>
  ⟨exec_adv_of_not_inited hd,
    fun hi ht => exec_adv_of_advance_some hd hi (advance_of_not_timed ht _),
    fun hi ht hsum => exec_adv_of_advance_some hd hi (advance_of_no_carry ht hsum),
    fun hi ht hsum hsec => exec_adv_of_advance_some hd hi (advance_of_carry ht hsum hsec),
    fun hi ht hsum hsec => exec_adv_of_advance_none hd hi (advance_of_overflow ht hsum hsec.ge)⟩

/-! ### Where ACC_OVERFLOW is raised -/

/-- SEC cannot take a carry: the ground of ACC_OVERFLOW (R103). -/
def secFull (s : State) : Prop := timed s.state = true ∧ 2 ^ s.cfg.secW ≤ s.sec + 1

theorem secFull_of_advance_none {d : Nat} {s : State} (h : advance d s = none) : secFull s := by
  obtain ⟨ht, -, hs⟩ := advance_none h
  exact ⟨ht, hs⟩

theorem tickTimed_of_overflow {p limit : Nat} {nxt : EntryPos} {s : State} (ht : timed s.state = true)
    (hp : 1000 ≤ s.subsec.toNat + p) (hs : 2 ^ s.cfg.secW ≤ s.sec + 1) :
    tickTimed p limit nxt s = .refused (.accOverflow (encode .tick)) := by
  have ha : advance p (toggleLed s) = none := advance_of_overflow (s := toggleLed s) ht hp hs
  simp [tickTimed, ha]

theorem secFull_of_tickTimed_refused {p limit : Nat} {nxt : EntryPos} {s : State} {r : Refusal}
    (h : tickTimed p limit nxt s = .refused r) : secFull s := by
  unfold tickTimed at h
  split at h
  case h_1 ha => exact secFull_of_advance_none (s := toggleLed s) ha
  case h_2 => cases h

theorem exec_tick_of_overflow {s : State} (hi : s.inited = true) (ha : awake s) (hs : 2 ^ s.cfg.secW ≤ s.sec + 1)
    (hc : s.state = .booting ∧ 1000 ≤ s.subsec.toNat + s.cfg.bootTickMs ∨
      s.state = .shuttingDown ∧ 1000 ≤ s.subsec.toNat + s.cfg.shutdownTickMs) :
    exec .tick s = .refused (.accOverflow (encode .tick)) := by
  rw [exec_tick_awake hi ha, tickAction]
  obtain ⟨hst, hp⟩ | ⟨hst, hp⟩ := hc <;> rw [hst] <;> exact tickTimed_of_overflow (by rw [hst]; rfl) hp hs

theorem secFull_of_tickAction_refused {s : State} {r : Refusal} (h : tickAction s = .refused r) : secFull s := by
  unfold tickAction at h
  split at h
  case h_1 | h_2 => exact secFull_of_tickTimed_refused h
  case h_3 | h_4 | h_5 => cases h

/-- The guard on INITED raises its own reason, so any other comes from what it guards. -/
theorem requireInit_accOverflow {i : Instr} {s : State} {body : Host.Outcome State Fault Refusal} {w : Word}
    (h : requireInit i s body = .refused (.accOverflow w)) : body = .refused (.accOverflow w) := by
  unfold requireInit at h
  split at h
  · exact h
  · cases h

theorem secFull_of_execTick {s : State} {w : Word} (h : execTick s = .refused (.accOverflow w)) : secFull s := by
  have hbody := requireInit_accOverflow h
  split at hbody
  · cases hbody
  · exact secFull_of_tickAction_refused hbody

theorem secFull_of_execAdv {dur : BitVec 10} {s : State} {w : Word} (h : execAdv dur s = .refused (.accOverflow w)) :
    secFull s := by
  unfold execAdv at h
  split at h
  · have hbody := requireInit_accOverflow h
    split at hbody
    case h_1 ha => exact secFull_of_advance_none ha
    case h_2 => cases hbody
  · cases h

/-- Only TICK and ADV raise ACC_OVERFLOW, and only where SEC is full. -/
theorem secFull_of_exec {i : Instr} {s : State} {w : Word} (h : exec i s = .refused (.accOverflow w)) : secFull s := by
  cases i with
  | tick => exact secFull_of_execTick h
  | adv dur => exact secFull_of_execAdv h
  | edge | transUnknown | transBooting | transIdle | transShuttingDown | transPoweredOff =>
    cases requireInit_accOverflow h
  | init => cases h

/-- A turn is refused as an illegal word, or for the reason of an operation it runs. -/
theorem perform_refused {e : Event} {s : State} {r : Refusal} (h : perform e s = .refused r) :
    (∃ w, r = .illegalWord w) ∨ ∃ i, exec i s = .refused r := by
  cases e with
  | mainLine =>
    simp only [perform, mainLineTurn] at h
    split at h
    · cases h
    · split at h
      · cases h
      · exact .inr ⟨.tick, h⟩
  | op w =>
    simp only [perform] at h
    cases hd : decode w with
    | instr i => exact .inr ⟨i, by rwa [performWord_instr hd] at h⟩
    | illegal why =>
      rw [performWord_illegal hd] at h
      cases h
      exact .inl ⟨w, rfl⟩

/-- Taking a turn off the agenda leaves the clock and the parameters as they are. -/
theorem secFull_nextEvent {s : State} (h : secFull (nextEvent s).2) : secFull s := by
  unfold nextEvent at h
  split at h <;> exact h

theorem secFull_of_step {s : State} {w : Word} (h : step s = .refused (.accOverflow w)) : secFull s := by
  obtain ⟨_, hr⟩ | ⟨i, hi⟩ := perform_refused h
  · cases hr
  · exact secFull_nextEvent (secFull_of_exec hi)

/-! ### A defined flow -/

section
variable {s : State} (h : DefinedInv s)
include h

/-- BOOT_TIMEOUT leaves room above it (R7). -/
theorem sec_bound_booting (hs : s.state = .booting) :
    s.sec ≤ s.cfg.bootTimeout ∧ s.cfg.bootTimeout ≤ 2 ^ s.cfg.secW - 2 := by
  obtain ⟨-, hboot, -⟩ := h.inv.legal
  exact ⟨h.sec_booting hs, by omega⟩

/-- SHUTDOWN_TIMEOUT leaves room above it (R7). -/
theorem sec_bound_shuttingDown (hs : s.state = .shuttingDown) :
    s.sec ≤ max (s.cfg.shutdownTimeout - 1) 0 ∧ max (s.cfg.shutdownTimeout - 1) 0 ≤ 2 ^ s.cfg.secW - 2 := by
  obtain ⟨-, -, hshutdown, -⟩ := h.inv.legal
  rw [Nat.max_zero]
  exact ⟨h.sec_shuttingDown hs, by omega⟩

/-- Both bounds are below 2^SEC_W - 1, so SEC always has room for a carry. -/
theorem not_secFull_of_definedInv : ¬ secFull s := by
  rintro ⟨ht, hfull⟩
  obtain ⟨hwidth, -⟩ := h.inv.legal
  have hroom : 2 ^ 8 ≤ 2 ^ s.cfg.secW := Nat.pow_le_pow_right (by decide) hwidth
  cases hs : s.state with
  | booting =>
    obtain ⟨hsec, hmax⟩ := sec_bound_booting h hs
    omega
  | shuttingDown =>
    obtain ⟨hsec, hmax⟩ := sec_bound_shuttingDown h hs
    omega
  | unknown | idle | poweredOff => simp [hs, timed] at ht

end

/-- Settles O22: a step raises ACC_OVERFLOW only where SEC is full (`secFull_of_step`), which the bounds of a defined flow
exclude. -/
theorem carryPastSecIsRefused : Obligations.CarryPastSecIsRefused :=
  ⟨fun _ _ hd hi ht hsum hsec => exec_adv_of_advance_none hd hi (advance_of_overflow ht hsum (by omega)),
    fun _ hi ha hsec hc => exec_tick_of_overflow hi ha (by omega) hc,
    fun _ h =>
      ⟨fun _ hstep => not_secFull_of_definedInv h (secFull_of_step hstep), sec_bound_booting h, sec_bound_shuttingDown h⟩⟩

end Sys2Proof.Machine
end

section
/-! PROOFS. R111 to R114: what a TICK that is not held does in a timed state, and in the two states that sleep. -/

namespace Sys2Proof.Machine

theorem exec_tick_of_not_inited {s : State} (hi : s.inited = false) :
    exec .tick s = .refused (.notInitialised (encode .tick)) :=
  requireInit_of_not_inited hi

/-! ### TICK in a timed state -/

theorem timeoutTransition_of_whole {s : State} (hr : s.cfg.entryRace = false) (nxt : EntryPos) :
    timeoutTransition nxt s = transition nxt.target s := by
  simp [timeoutTransition, hr]

theorem timeoutTransition_of_split {s : State} (hr : s.cfg.entryRace = true) (nxt : EntryPos) :
    timeoutTransition nxt s = { s with state := nxt.target, entryPending := some nxt } := by
  simp [timeoutTransition, hr]

/-- The state of a timed tick before its comparison: the LED is toggled and the period added to the clock (R110). -/
def toggleAndCount (p : Nat) (s : State) : State := { addClock p s with outLed := !s.outLed }

@[simp] theorem toggleAndCount_sec (p : Nat) (s : State) :
    (toggleAndCount p s).sec = s.sec + (s.subsec.toNat + p) / 1000 := rfl

/-- A TICK of `s` that is not held performs `TickTimed(p, limit, nxt)`, with the clock and the period in range: what
`Booting` and `ShuttingDown` have in common. -/
structure TicksTimed (p limit : Nat) (nxt : EntryPos) (s : State) : Prop where
  isAwake : awake s
  action : tickAction s = tickTimed p limit nxt s
  isTimed : timed s.state = true
  period_le : p ≤ 999
  subsec_le : s.subsec.toNat ≤ 999
  sec_lt : s.sec < 2 ^ s.cfg.secW

theorem ticksTimed_booting {s : State} (h : Inv s) (ha : awake s) (hs : s.state = .booting) :
    TicksTimed s.cfg.bootTickMs s.cfg.bootTimeout .idle s := by
  obtain ⟨-, -, -, ⟨-, hp⟩, -⟩ := h.legal
  exact ⟨ha, by simp only [tickAction, hs], by rw [hs]; rfl, hp, h.subsec_le, h.sec_lt⟩

theorem ticksTimed_shuttingDown {s : State} (h : Inv s) (ha : awake s) (hs : s.state = .shuttingDown) :
    TicksTimed s.cfg.shutdownTickMs s.cfg.shutdownTimeout (.poweredOff 0) s := by
  obtain ⟨-, -, -, -, ⟨-, hp⟩, -⟩ := h.legal
  exact ⟨ha, by simp only [tickAction, hs], by rw [hs]; rfl, hp, h.subsec_le, h.sec_lt⟩

namespace TicksTimed

variable {p limit : Nat} {nxt : EntryPos} {s : State} (h : TicksTimed p limit nxt s) (hi : s.inited = true)
include h hi

/-- One period carries at most once, so SEC has no room for the sum only where it cannot take that carry (R103). -/
theorem exec_of_overflow (hfull : 2 ^ s.cfg.secW ≤ (toggleAndCount p s).sec) :
    exec .tick s = .refused (.accOverflow (encode .tick)) := by
  obtain ⟨ha, haction, ht, hp, hm, hsec⟩ := h
  rw [toggleAndCount_sec] at hfull
  rw [exec_tick_awake hi ha, haction, tickTimed_of_overflow ht (by omega) (by omega)]

/-- Where SEC has room, the comparison decides between staying and the timeout transition. -/
theorem exec_of_room (hroom : (toggleAndCount p s).sec < 2 ^ s.cfg.secW) :
    exec .tick s =
      .next (if limit ≤ (toggleAndCount p s).sec then timeoutTransition nxt (toggleAndCount p s)
        else toggleAndCount p s) := by
  have hadv : advance p (toggleLed s) = some (toggleAndCount p s) :=
    advance_timed (s := toggleLed s) h.isTimed h.subsec_le h.period_le hroom
  rw [exec_tick_awake hi h.isAwake, h.action, tickTimed, hadv]

theorem exec_of_below (hroom : (toggleAndCount p s).sec < 2 ^ s.cfg.secW) (hbelow : (toggleAndCount p s).sec < limit) :
    exec .tick s = .next (toggleAndCount p s) := by
  rw [h.exec_of_room hi hroom, if_neg hbelow.not_ge]

section
variable (hroom : (toggleAndCount p s).sec < 2 ^ s.cfg.secW) (hlimit : limit ≤ (toggleAndCount p s).sec)
include hroom hlimit

theorem exec_of_timeout_whole (hr : s.cfg.entryRace = false) :
    exec .tick s = .next (transition nxt.target (toggleAndCount p s)) := by
  rw [h.exec_of_room hi hroom, if_pos hlimit, timeoutTransition_of_whole (s := toggleAndCount p s) hr]

theorem exec_of_timeout_split (hr : s.cfg.entryRace = true) :
    exec .tick s = .next { toggleAndCount p s with state := nxt.target, entryPending := some nxt } := by
  rw [h.exec_of_room hi hroom, if_pos hlimit, timeoutTransition_of_split (s := toggleAndCount p s) hr]

end

end TicksTimed

/-- In `ShuttingDown` neither rule of EDGE applies (R134, R137). -/
theorem edgeDetect_of_shuttingDown {s : State} (hs : s.state = .shuttingDown) (pins : Byte) :
    edgeDetect pins s = { s with snap := pins, asleep := false } := by
  obtain ⟨hstate, -⟩ | ⟨hstate, -⟩ | ⟨hstate, -⟩ | ⟨-, -, heq⟩ := edgeDetect_cases pins s
  case inr.inr.inr => exact heq
  all_goals simp [hs] at hstate

/-- Settles O24: `Booting` ticks by `TickTimed`, and its whole timeout transition is the entry to `Idle`. -/
theorem tickInBooting : Obligations.TickInBooting := by
  rintro s _ hinv ha hs rfl
  have h := ticksTimed_booting hinv ha hs
  exact ⟨exec_tick_of_not_inited, h.exec_of_overflow, h.exec_of_below, h.exec_of_timeout_whole, h.exec_of_timeout_split⟩

/-- Settles O25: `ShuttingDown` ticks by `TickTimed`, its whole timeout transition is the entry to `PoweredOff`, and
no sample acts on it (`edgeDetect_of_shuttingDown`). -/
theorem tickInShuttingDown : Obligations.TickInShuttingDown := by
  rintro s _ hinv ha hs rfl
  have h := ticksTimed_shuttingDown hinv ha hs
  exact ⟨exec_tick_of_not_inited, h.exec_of_overflow, h.exec_of_below, h.exec_of_timeout_whole, h.exec_of_timeout_split,
    fun hi pins => by rw [exec_edge_inited hi, edgeDetect_of_shuttingDown hs]⟩

/-! ### TICK in a state that sleeps -/

theorem tickSleep_of_whole {s : State} (hr : s.cfg.sleepRace = false) : tickSleep s = { s with asleep := true } := by
  simp [tickSleep, hr]

theorem tickSleep_of_split {s : State} (hr : s.cfg.sleepRace = true) :
    tickSleep s = { s with sleepPending := true } := by
  simp [tickSleep, hr]

theorem exec_tick_of_sleeping_state {s : State} (hi : s.inited = true) (ha : awake s)
    (hs : s.state = .idle ∨ s.state = .poweredOff) : exec .tick s = .next (tickSleep s) := by
  rw [exec_tick_awake hi ha]
  obtain hs | hs := hs <;> simp only [tickAction, hs]

theorem not_awake_of_asleep {s : State} (h : s.asleep = true) : ¬ awake s := by
  simp [awake, h]

theorem not_awake_of_sleepPending {s : State} (h : s.sleepPending = true) : ¬ awake s := by
  simp [awake, h]

/-- INIT leaves the device ready for the TICK of R184. -/
theorem exec_init_ready {s t : State} (h : exec .init s = .next t) :
    t.inited = true ∧ awake t ∧ t.state = .poweredOff := by
  cases h
  exact ⟨rfl, ⟨rfl, rfl, rfl⟩, rfl⟩

/-- Settles O26: both states run `TickSleep`, by its two halves, and INIT leads to one of them (`exec_init_ready`). -/
theorem tickEntersSleep : Obligations.TickEntersSleep :=
  ⟨fun s ha hs =>
    ⟨exec_tick_of_not_inited,
      fun hi hr => ⟨by rw [exec_tick_of_sleeping_state hi ha hs, tickSleep_of_whole hr], not_awake_of_asleep rfl⟩,
      fun hi hr => ⟨by rw [exec_tick_of_sleeping_state hi ha hs, tickSleep_of_split hr],
        not_awake_of_sleepPending rfl⟩⟩,
    fun _ _ => exec_init_ready⟩

end Sys2Proof.Machine
end

section
/-! PROOFS. R131 to R137 and R139: which lines rise in an EDGE, and what the EDGE does with them. -/

namespace Sys2Proof.Machine

/-! ### Rising lines -/

theorem rising_eq_and_not (pins snap : Byte) : rising pins snap = pins &&& ~~~snap := by
  refine BitVec.eq_of_getLsbD_eq fun k hk => ?_
  rw [rising_getLsbD, BitVec.getLsbD_and, BitVec.getLsbD_not, decide_eq_true hk, Bool.true_and]

theorem buttonRises_iff {pins snap : Byte} :
    buttonRises pins snap = true ↔ pins.getLsbD 0 = true ∧ snap.getLsbD 0 = false := by
  rw [buttonRises_eq, Bool.and_eq_true, Bool.not_eq_true']

theorem readyRises_iff {pins snap : Byte} :
    readyRises pins snap = true ↔ pins.getLsbD 1 = true ∧ snap.getLsbD 1 = false := by
  rw [readyRises_eq, Bool.and_eq_true, Bool.not_eq_true']

/-! ### What every EDGE writes -/

@[simp] theorem edgeDetect_snap (pins : Byte) (s : State) : (edgeDetect pins s).snap = pins := by
  obtain ⟨-, -, heq⟩ | ⟨-, -, heq⟩ | ⟨-, -, heq⟩ | ⟨-, -, heq⟩ := edgeDetect_cases pins s <;> simp [heq]

@[simp] theorem edgeDetect_asleep (pins : Byte) (s : State) : (edgeDetect pins s).asleep = false := by
  obtain ⟨-, -, heq⟩ | ⟨-, -, heq⟩ | ⟨-, -, heq⟩ | ⟨-, -, heq⟩ := edgeDetect_cases pins s <;> simp [heq]

/-! ### The rule that acts, by the state and the rising line -/

section
variable {pins : Byte} {s : State}

/-- The host-ready rule in `Booting` (R133), where the button has no rule (R137). -/
theorem edgeDetect_of_ready_in_booting (hs : s.state = .booting) (hr : readyRises pins s.snap = true) :
    edgeDetect pins s = { s with snap := pins, asleep := false, sec := s.cfg.bootTimeout % 2 ^ s.cfg.secW } := by
  obtain ⟨-, -, heq⟩ | ⟨hidle, -⟩ | ⟨hoff, -⟩ | ⟨hnot, -⟩ := edgeDetect_cases pins s
  · exact heq
  · cases hs.symm.trans hidle
  · cases hs.symm.trans hoff
  · exact absurd ⟨hs, hr⟩ hnot

/-- The button rule in `Idle` (R135), where host-ready has no rule (R134). -/
theorem edgeDetect_of_button_in_idle (hs : s.state = .idle) (hb : buttonRises pins s.snap = true) :
    edgeDetect pins s = transition .shuttingDown { s with snap := pins, asleep := false } := by
  obtain ⟨hboot, -⟩ | ⟨-, -, heq⟩ | ⟨hoff, -⟩ | ⟨-, hnot, -⟩ := edgeDetect_cases pins s
  · cases hs.symm.trans hboot
  · exact heq
  · cases hs.symm.trans hoff
  · exact absurd ⟨.inl hs, hb⟩ hnot

/-- The button rule in `PoweredOff` (R136): the host-ready rule has been passed before `Booting` is entered (R138). -/
theorem edgeDetect_of_button_in_poweredOff (hs : s.state = .poweredOff) (hb : buttonRises pins s.snap = true) :
    edgeDetect pins s = transition .booting { s with snap := pins, asleep := false } := by
  obtain ⟨hboot, -⟩ | ⟨hidle, -⟩ | ⟨-, -, heq⟩ | ⟨-, hnot, -⟩ := edgeDetect_cases pins s
  · cases hs.symm.trans hboot
  · cases hs.symm.trans hidle
  · exact heq
  · exact absurd ⟨.inr hs, hb⟩ hnot

/-- Where no rule acts, EDGE records the sample and wakes the main line (R134, R137, R139). -/
theorem edgeDetect_of_no_rule (hr : ¬ (s.state = .booting ∧ readyRises pins s.snap = true))
    (hb : ¬ ((s.state = .idle ∨ s.state = .poweredOff) ∧ buttonRises pins s.snap = true)) :
    edgeDetect pins s = { s with snap := pins, asleep := false } := by
  obtain ⟨hboot, hready, -⟩ | ⟨hidle, hbutton, -⟩ | ⟨hoff, hbutton, -⟩ | ⟨-, -, heq⟩ := edgeDetect_cases pins s
  · exact absurd ⟨hboot, hready⟩ hr
  · exact absurd ⟨.inl hidle, hbutton⟩ hb
  · exact absurd ⟨.inr hoff, hbutton⟩ hb
  · exact heq

end

/-- A sample equal to SNAP raises no line (R139). -/
theorem edgeDetect_snap_self (s : State) : edgeDetect s.snap s = { s with asleep := false } :=
  edgeDetect_of_no_rule (by simp [readyRises_iff]) (by simp [buttonRises_iff])

/-! ### The TICK after the host is ready -/

@[simp] theorem timeoutTransition_state (nxt : EntryPos) (s : State) :
    (timeoutTransition nxt s).state = nxt.target := by
  unfold timeoutTransition
  split
  · rfl
  · exact transition_state _ _

/-- Once SEC is at BOOT_TIMEOUT the next TICK leaves `Booting`: R7 leaves SEC room for the carry of that TICK (R103), so it
is not refused. -/
theorem exec_tick_of_boot_timeout {s : State} (hi : s.inited = true) (hl : s.cfg.Legal) (ha : awake s)
    (hs : s.state = .booting) (hm : s.subsec.toNat ≤ 999) (hsec : s.sec = s.cfg.bootTimeout) :
    ∃ t, exec .tick s = .next t ∧ t.state = .idle := by
  obtain ⟨-, hboot, -, ⟨-, hp⟩, -⟩ := hl
  have h : TicksTimed s.cfg.bootTickMs s.cfg.bootTimeout .idle s :=
    ⟨ha, by simp only [tickAction, hs], by rw [hs]; rfl, hp, hm, by omega⟩
  have hroom : (toggleAndCount s.cfg.bootTickMs s).sec < 2 ^ s.cfg.secW := by rw [toggleAndCount_sec]; omega
  have hlimit : s.cfg.bootTimeout ≤ (toggleAndCount s.cfg.bootTickMs s).sec := by rw [toggleAndCount_sec]; omega
  refine ⟨_, h.exec_of_room hi hroom, ?_⟩
  rw [if_pos hlimit]
  exact timeoutTransition_state _ _

/-! ### The obligations -/

/-- Settles O36: the two premises say that no rule acts, so `edgeDetect_of_no_rule` applies. -/
theorem otherEdgesOnlyRecordAndWake : Obligations.OtherEdgesOnlyRecordAndWake := fun s pins hi hr hb => by
  rw [exec_edge_inited hi, edgeDetect_of_no_rule (by rwa [readyRises_iff]) (by rwa [buttonRises_iff])]

/-- Settles O32: bit by bit from the definition of `rising`; EDGE and INIT both write SNAP. -/
theorem risingMeansChangedAndSet : Obligations.RisingMeansChangedAndSet := by
  refine ⟨rising_eq_and_not, fun pins snap k _ => rising_getLsbD pins snap k, fun pins s t h => ?_, fun s t h => ?_⟩
  · obtain ⟨-, rfl⟩ := execEdge_next h
    exact edgeDetect_snap pins s
  · cases h
    rfl

/-- Settles O33: the button rule of `PoweredOff`, with the entry to `Booting` written out. -/
theorem buttonInPoweredOffBoots : Obligations.ButtonInPoweredOffBoots := fun s pins hi hs hpin hsnap => by
  rw [exec_edge_inited hi, edgeDetect_of_button_in_poweredOff hs (buttonRises_iff.mpr ⟨hpin, hsnap⟩), transition_booting]

/-- Settles O34: the button rule of `Idle`, with the entry to `ShuttingDown` written out; a defined flow has power on in
`Idle` (R91). -/
theorem buttonInIdleShutsDown : Obligations.ButtonInIdleShutsDown := fun s pins hi hs hpin hsnap => by
  refine ⟨?_, fun hflow hrace => ?_⟩
  · rw [exec_edge_inited hi, edgeDetect_of_button_in_idle hs (buttonRises_iff.mpr ⟨hpin, hsnap⟩),
      transition_shuttingDown]
  · have hlines := hflow.lines hrace
    simp only [linesOfState, hs] at hlines
    exact hlines.left

/-- Settles O35: BOOT_TIMEOUT fits SEC (R7), so the host-ready rule writes it whole, and `exec_tick_of_boot_timeout` is
the next TICK. -/
theorem hostReadyInBootingSetsSec : Obligations.HostReadyInBootingSetsSec := by
  rintro s _ pins hi hl hs hpin hsnap rfl
  refine ⟨?_, fun hm hsleep hentry => exec_tick_of_boot_timeout hi hl ⟨rfl, hsleep, hentry⟩ hs hm rfl⟩
  have hfits : s.cfg.bootTimeout < 2 ^ s.cfg.secW := by
    obtain ⟨-, hboot, -⟩ := hl
    omega
  rw [exec_edge_inited hi, edgeDetect_of_ready_in_booting hs (readyRises_iff.mpr ⟨hpin, hsnap⟩), Nat.mod_eq_of_lt hfits]

/-- Settles O37: every EDGE clears ASLEEP (`edgeDetect_asleep`), an equal sample does nothing else, and the woken main line
goes to sleep as R113 and R114 say (`tickEntersSleep`). -/
theorem everyEdgeWakesTheMainLine : Obligations.EveryEdgeWakesTheMainLine := fun s hi => by
  refine ⟨fun pins => ⟨_, exec_edge_inited hi, edgeDetect_asleep pins s⟩,
    by rw [exec_edge_inited hi, edgeDetect_snap_self], fun hs hsleep hentry => ?_⟩
  obtain ⟨-, hwhole, hsplit⟩ := tickEntersSleep.left { s with asleep := false } ⟨rfl, hsleep, hentry⟩ hs
  exact ⟨fun hr => (hwhole hi hr).left, fun hr => (hsplit hi hr).left⟩

end Sys2Proof.Machine
end

section
/-! PROOFS. R153: a refusal is final for the run. A legal word is the encoding of what it decodes to (R66), so the word a
refusal records is the presented one. -/

namespace Sys2Proof

/-! ### A word put together from the fields of its format -/

theorem word_eq_fields_E (w : Word) : opField w ++ w.extractLsb' 8 5 ++ w.extractLsb' 0 8 = w := by
  have h : opField w ++ w.extractLsb' 8 5 = w.extractLsb' 8 8 := append_fields w 8 5 3
  rw [h, word_eq_bytes]

theorem word_eq_fields_S (w : Word) : opField w ++ w.extractLsb' 3 10 ++ w.extractLsb' 0 3 = w := by
  have h : opField w ++ w.extractLsb' 3 10 = w.extractLsb' 3 13 := append_fields w 3 10 3
  rw [h, append_fields w 0 3 13, BitVec.extractLsb'_eq_self]

theorem word_eq_fields_A (w : Word) : opField w ++ w.extractLsb' 10 3 ++ w.extractLsb' 0 10 = w := by
  have h : opField w ++ w.extractLsb' 10 3 = w.extractLsb' 10 6 := append_fields w 10 3 3
  rw [h, append_fields w 0 10 6, BitVec.extractLsb'_eq_self]

end Sys2Proof

namespace Sys2Proof.Machine

/-! ### What each format reads -/

section
variable {w : Word} {i : Instr}

theorem decodeT_instr {j : Instr} (h : decodeT j w = .instr i) : i = j ∧ w.extractLsb' 0 13 = 0#13 := by
  unfold decodeT at h
  split at h <;> cases h
  exact ⟨rfl, ‹_›⟩

theorem decodeE_instr (h : decodeE w = .instr i) : i = .edge (w.extractLsb' 0 8) ∧ w.extractLsb' 8 5 = 0#5 := by
  unfold decodeE at h
  split at h <;> cases h
  exact ⟨rfl, ‹_›⟩

/-- Format S reads the state whose code stands in ST (R59). -/
theorem decodeS_instr (h : decodeS w = .instr i) :
    ∃ st, i = transOp st ∧ w.extractLsb' 0 3 = st.code ∧ w.extractLsb' 3 10 = 0#10 := by
  unfold decodeS at h
  split at h
  case isFalse => cases h
  case isTrue hbits =>
    split at h <;> cases h
    case h_1 hst => exact ⟨.unknown, rfl, BitVec.eq_of_toNat_eq hst, hbits⟩
    case h_2 hst => exact ⟨.booting, rfl, BitVec.eq_of_toNat_eq hst, hbits⟩
    case h_3 hst => exact ⟨.idle, rfl, BitVec.eq_of_toNat_eq hst, hbits⟩
    case h_4 hst => exact ⟨.shuttingDown, rfl, BitVec.eq_of_toNat_eq hst, hbits⟩
    case h_5 hst => exact ⟨.poweredOff, rfl, BitVec.eq_of_toNat_eq hst, hbits⟩

theorem decodeA_instr (h : decodeA w = .instr i) :
    i = .adv (w.extractLsb' 0 10) ∧ (w.extractLsb' 0 10).toNat ≤ 999 ∧ w.extractLsb' 10 3 = 0#3 := by
  unfold decodeA at h
  split at h
  case isFalse => cases h
  case isTrue hbits =>
    split at h <;> cases h
    exact ⟨rfl, ‹_›, hbits⟩

theorem transOp_wf (st : SupervisorState) : (transOp st).wf = true := by
  cases st <;> rfl

/-- A legal word stands for a well-formed operation and is its encoding: the opcode selects the format, and the format
names every other bit (R57 to R60). -/
theorem wf_and_encode_of_decode (h : decode w = .instr i) : i.wf = true ∧ encode i = w := by
  obtain hop | hop | hop | hop | hop | hop := opField_cases w
  · rw [decode_of_op_tick hop] at h
    obtain ⟨rfl, hrest⟩ := decodeT_instr h
    rw [word_eq_op_rest w, hop, hrest]
    exact ⟨rfl, rfl⟩
  · rw [decode_of_op_edge hop] at h
    obtain ⟨rfl, hbits⟩ := decodeE_instr h
    refine ⟨rfl, ?_⟩
    conv_rhs => rw [← word_eq_fields_E w, hop, hbits]
    rfl
  · rw [decode_of_op_trans hop] at h
    obtain ⟨st, rfl, hst, hbits⟩ := decodeS_instr h
    refine ⟨transOp_wf st, ?_⟩
    rw [encode_transOp, ← hst, ← hbits, ← hop, word_eq_fields_S]
  · rw [decode_of_op_adv hop] at h
    obtain ⟨rfl, hdur, hbits⟩ := decodeA_instr h
    refine ⟨decide_eq_true hdur, ?_⟩
    conv_rhs => rw [← word_eq_fields_A w, hop, hbits]
    rfl
  · rw [decode_of_op_init hop] at h
    obtain ⟨rfl, hrest⟩ := decodeT_instr h
    rw [word_eq_op_rest w, hop, hrest]
    exact ⟨rfl, rfl⟩
  · rw [decode_of_op_reserved hop] at h
    cases h

end

/-! ### The step that is refused, and the run after it -/

/-- Before INIT every other operation is refused with its word (R181). -/
theorem exec_of_not_inited {i : Instr} {s : State} (hwf : i.wf = true) (hne : i ≠ .init) (hi : s.inited = false) :
    exec i s = .refused (.notInitialised (encode i)) := by
  cases i with
  | adv dur => exact exec_adv_of_not_inited (of_decide_eq_true hwf) hi
  | init => exact absurd rfl hne
  | tick | edge | transUnknown | transBooting | transIdle | transShuttingDown | transPoweredOff =>
    exact requireInit_of_not_inited hi

theorem step_presented {s : State} {w : Word} {i : Instr} {rest : List Event} (hs : s.agenda = .op w :: rest)
    (hw : decode w = .instr i) : step s = exec i { s with agenda := rest } := by
  rw [step_cons hs, perform, performWord_instr hw]

/-- A run that comes to a refused step is refused for its reason, however much longer it is. -/
theorem runSteps_refused_at {k : Nat} {s u : State} {r : Refusal} (hrun : runSteps k s = .next u)
    (hstep : step u = .refused r) (n : Nat) : runSteps (k + (n + 1)) s = .refused r := by
  rw [runSteps_add k (n + 1) s u hrun, runSteps_succ_refused hstep]

/-- Settles O10: each premise refuses the step from `u` with the presented word (`wf_and_encode_of_decode`), and
`runSteps_refused_at` carries the refusal to the end of the run. -/
theorem refusedRunStaysRefused : Obligations.RefusedRunStaysRefused := by
  intro k n s u w rest hrun hu
  refine ⟨fun why hw => ?_, fun i hw hne hi => ?_, fun dur hw hi ht hsum hfull => ?_, fun hw hi ha hsum hfull => ?_⟩ <;>
    refine runSteps_refused_at hrun ?_ n
  · exact step_illegal hw hu
  · obtain ⟨hwf, rfl⟩ := wf_and_encode_of_decode hw
    rw [step_presented hu hw]
    exact exec_of_not_inited hwf hne hi
  · obtain ⟨hwf, rfl⟩ := wf_and_encode_of_decode hw
    rw [step_presented hu hw]
    exact exec_adv_of_advance_none (of_decide_eq_true hwf) hi
      (advance_of_overflow (s := { u with agenda := rest }) ht hsum hfull)
  · obtain ⟨-, rfl⟩ := wf_and_encode_of_decode hw
    rw [step_presented hu hw]
    exact exec_tick_of_overflow (s := { u with agenda := rest }) hi ha hfull hsum

end Sys2Proof.Machine
end

section
/-! PROOFS. R151: `Unknown` after INIT is the defect, and only INIT and TRANS leave it. -/

namespace Sys2Proof.Machine

section
variable {s : State} (hs : s.state = .unknown)
include hs

/-- A TICK that is not held blinks and ends where it began (R115). -/
theorem exec_tick_of_unknown (hi : s.inited = true) (ha : awake s) : exec .tick s = .next s := by
  rw [exec_tick_awake hi ha]
  simp only [tickAction, hs, tickError_eq]

/-- No rule of EDGE acts in `Unknown` (R134, R137). -/
theorem edgeDetect_of_unknown (pins : Byte) : edgeDetect pins s = { s with snap := pins, asleep := false } :=
  edgeDetect_of_no_rule (by simp [hs]) (by simp [hs])

theorem execTick_keeps_unknown {t : State} (h : execTick s = .next t) : t.state = .unknown := by
  obtain ⟨-, ⟨-, rfl⟩ | ⟨-, ⟨hb, -⟩ | ⟨hd, -⟩ | ⟨hsleeps, -⟩ | ⟨-, rfl⟩⟩⟩ := execTick_cases h
  · exact hs
  · cases hs.symm.trans hb
  · cases hs.symm.trans hd
  · simp [hs] at hsleeps
  · exact hs

theorem execEdge_keeps_unknown {pins : Byte} {t : State} (h : execEdge pins s = .next t) : t.state = .unknown := by
  obtain ⟨-, rfl⟩ := execEdge_next h
  rw [edgeDetect_of_unknown hs]
  exact hs

/-- `Unknown` is not timed, so ADV does nothing in it (R101). -/
theorem execAdv_keeps_unknown {dur : BitVec 10} {t : State} (h : execAdv dur s = .next t) : t.state = .unknown := by
  obtain ⟨-, -, hadv⟩ := execAdv_next h
  rw [advance_of_not_timed (by rw [hs]; rfl)] at hadv
  cases hadv
  exact hs

/-- The operations that leave `Unknown`, one by one: INIT and the TRANS to another state. -/
theorem exec_leaves_unknown {i : Instr} {t : State} (h : exec i s = .next t) (ht : t.state ≠ .unknown) :
    i = .init ∨ i = .transBooting ∨ i = .transIdle ∨ i = .transShuttingDown ∨ i = .transPoweredOff := by
  cases i with
  | tick => exact absurd (execTick_keeps_unknown hs h) ht
  | edge pins => exact absurd (execEdge_keeps_unknown hs h) ht
  | adv dur => exact absurd (execAdv_keeps_unknown hs h) ht
  | transUnknown =>
    obtain ⟨-, hbody⟩ := requireInit_next h
    cases hbody
    exact absurd rfl ht
  | init | transBooting | transIdle | transShuttingDown | transPoweredOff => simp

end

theorem defect_transition {st : SupervisorState} (hst : st ≠ .unknown) (s : State) : defect (transition st s) = false := by
  simp [defect, hst]

/-- TRANS to a state other than `Unknown` ends the defect. -/
theorem exec_transOp_ends_defect {st : SupervisorState} (hst : st ≠ .unknown) {s : State} (hi : s.inited = true) :
    ∃ t, exec (transOp st) s = .next t ∧ defect t = false :=
  ⟨_, exec_transOp_of_inited st hi rfl, defect_transition hst s⟩

/-- INIT ends in `PoweredOff`. -/
theorem exec_init_ends_defect (s : State) : ∃ t, exec .init s = .next t ∧ defect t = false :=
  ⟨_, rfl, defect_transition (st := .poweredOff) (by decide) (clearForInit s)⟩

/-- Settles O18: TICK and EDGE by what they do in `Unknown`, the operations that leave it by `exec_leaves_unknown`, and each
of those does leave it. -/
theorem unknownIsLeftOnlyByInitOrTrans : Obligations.UnknownIsLeftOnlyByInitOrTrans := by
  intro s hi hs
  refine ⟨by simp [defect, hi, hs], exec_tick_of_unknown hs hi,
    fun pins => by rw [exec_edge_inited hi, edgeDetect_of_unknown hs], fun _ _ => exec_leaves_unknown hs, ?_⟩
  simp only [List.forall_mem_cons, List.not_mem_nil, false_imp_iff, implies_true, and_true]
  exact ⟨exec_init_ends_defect s, exec_transOp_ends_defect (st := .booting) (by decide) hi,
    exec_transOp_ends_defect (st := .idle) (by decide) hi, exec_transOp_ends_defect (st := .shuttingDown) (by decide) hi,
    exec_transOp_ends_defect (st := .poweredOff) (by decide) hi⟩

end Sys2Proof.Machine
end

section
/-! PROOFS. R180 to R182: INIT gives the reset table, and before it nothing else runs; R190: the one tick between the
host-ready edge and `Idle`. -/

namespace Sys2Proof.Machine

/-! ### INIT -/

theorem exec_init (s : State) : exec .init s = .next (transition .poweredOff (clearForInit s)) := rfl

/-- Settles O13: the operations other than INIT are guarded, ADV behind its own check of the duration. -/
theorem onlyInitRunsBeforeInit : Obligations.OnlyInitRunsBeforeInit := fun _ _ => exec_of_not_inited

/-- Settles O12: INIT clears what its entry to `PoweredOff` does not write. -/
theorem initGivesTheResetTable : Obligations.InitGivesTheResetTable := by
  refine ⟨by decide, fun s => ?_⟩
  rw [exec_init, transition_poweredOff]
  rfl

/-! ### The tick of latency after host-ready -/

/-- What host-ready leaves in `Booting` (R133): the sample recorded, the main line awake and SEC at BOOT_TIMEOUT. -/
def bootForced (pins : Byte) (s : State) : State := { s with snap := pins, asleep := false, sec := s.cfg.bootTimeout }

/-- BOOT_TIMEOUT fits SEC (R7), and an awake main line waits for no more than before. -/
theorem inv_bootForced (pins : Byte) {s : State} (h : Inv s) : Inv (bootForced pins s) where
  legal := h.legal
  subsec_le := h.subsec_le
  sec_lt := by
    obtain ⟨-, hboot, -⟩ := h.legal
    change s.cfg.bootTimeout < 2 ^ s.cfg.secW
    omega
  sleepPending_race := h.sleepPending_race
  entryPending_race := h.entryPending_race
  asleep_alone := nofun
  sleepPending_alone := h.sleepPending_alone

/-- The next TICK finds SEC at its limit, with room for the one carry of a boot period (R7, R103). -/
theorem exec_tick_bootForced (pins : Byte) {s : State} (h : Inv s) (hi : s.inited = true) (hs : s.state = .booting)
    (hsleep : s.sleepPending = false) (hentry : s.entryPending = none) (hr : s.cfg.entryRace = false) :
    exec .tick (bootForced pins s) =
      .next { addClock s.cfg.bootTickMs (bootForced pins s) with state := .idle, outLed := true } := by
  have ht : TicksTimed s.cfg.bootTickMs s.cfg.bootTimeout .idle (bootForced pins s) :=
    ticksTimed_booting (inv_bootForced pins h) ⟨rfl, hsleep, hentry⟩ hs
  have hsec : (toggleAndCount s.cfg.bootTickMs (bootForced pins s)).sec =
      s.cfg.bootTimeout + (s.subsec.toNat + s.cfg.bootTickMs) / 1000 := rfl
  obtain ⟨-, hboot, -, ⟨-, hp⟩, -⟩ := h.legal
  have hm := h.subsec_le
  have hroom : (toggleAndCount s.cfg.bootTickMs (bootForced pins s)).sec < 2 ^ s.cfg.secW := by omega
  have hlimit : s.cfg.bootTimeout ≤ (toggleAndCount s.cfg.bootTickMs (bootForced pins s)).sec := by omega
  exact ht.exec_of_timeout_whole hi hroom hlimit hr

/-- Settles O38: the EDGE answers `bootForced` (`hostReadyInBootingSetsSec`), and the TICK after it is past the limit. -/
theorem hostReadyEndsTheBootAtTheNextTick : Obligations.HostReadyEndsTheBootAtTheNextTick := by
  intro s pins h hi hs hsleep hentry hr hpin hsnap
  obtain ⟨hedge, -⟩ := hostReadyInBootingSetsSec s (bootForced pins s) pins hi h.legal hs hpin hsnap rfl
  exact ⟨bootForced pins s, hedge, hs, rfl, rfl, exec_tick_bootForced pins h hi hs hsleep hentry hr⟩

end Sys2Proof.Machine
end

section
/-! PROOFS. R55 to R66 and R69: encoder and decoder are inverse to each other on well-formed operations and legal words, the
rows of the opcode table do not overlap, a byte stream is little-endian, and PRESS rises from a low snapshot only. -/

namespace Sys2Proof

/-! ### The fields of a word put together by a format -/

theorem fields_append_E (op : BitVec 3) (reserved : BitVec 5) (pins : BitVec 8) :
    opField (op ++ reserved ++ pins) = op ∧ (op ++ reserved ++ pins).extractLsb' 8 5 = reserved ∧
      (op ++ reserved ++ pins).extractLsb' 0 8 = pins := by
  refine ⟨?_, ?_, BitVec.extractLsb'_append_eq_right⟩
  · exact (BitVec.extractLsb'_append_eq_of_le (by decide)).trans BitVec.extractLsb'_append_eq_left
  · exact (BitVec.extractLsb'_append_eq_of_le (by decide)).trans BitVec.extractLsb'_append_eq_right

theorem fields_append_A (op : BitVec 3) (reserved : BitVec 3) (dur : BitVec 10) :
    opField (op ++ reserved ++ dur) = op ∧ (op ++ reserved ++ dur).extractLsb' 10 3 = reserved ∧
      (op ++ reserved ++ dur).extractLsb' 0 10 = dur := by
  refine ⟨?_, ?_, BitVec.extractLsb'_append_eq_right⟩
  · exact (BitVec.extractLsb'_append_eq_of_le (by decide)).trans BitVec.extractLsb'_append_eq_left
  · exact (BitVec.extractLsb'_append_eq_of_le (by decide)).trans BitVec.extractLsb'_append_eq_right

/-! ### Decoding an encoding -/

/-- Format E admits every sample (R58). -/
theorem decode_encode_edge (pins : Byte) : decode (encode (.edge pins)) = .instr (.edge pins) := by
  obtain ⟨hop, hbits, hpins⟩ := fields_append_E 0b010#3 0#5 pins
  have hE : decodeE (encode (.edge pins)) = .instr (.edge pins) := by
    rw [decodeE, encode, hbits, if_pos rfl, hpins]
  exact (decode_of_op_edge hop).trans hE

/-- Format A admits the durations up to 999 (R60, R65). -/
theorem decode_encode_adv {dur : BitVec 10} (h : dur.toNat ≤ 999) : decode (encode (.adv dur)) = .instr (.adv dur) := by
  obtain ⟨hop, hbits, hdur⟩ := fields_append_A 0b100#3 0#3 dur
  have hA : decodeA (encode (.adv dur)) = .instr (.adv dur) := by
    rw [decodeA, encode, hbits, if_pos rfl, hdur, if_pos h]
  exact (decode_of_op_adv hop).trans hA

theorem decode_encode {i : Instr} (h : i.wf = true) : decode (encode i) = .instr i := by
  cases i with
  | edge pins => exact decode_encode_edge pins
  | adv dur => exact decode_encode_adv (of_decide_eq_true h)
  | tick | transUnknown | transBooting | transIdle | transShuttingDown | transPoweredOff | init => decide

/-- Settles O3: the two formats with an operand give it back (`fields_append_E`, `fields_append_A`), and the other words are
constants. -/
theorem decodeEncodeRoundTrip : Obligations.DecodeEncodeRoundTrip := fun _ => decode_encode

/-- Settles O4: the opcode selects the format, and the format names every other bit (`wf_and_encode_of_decode`). -/
theorem encodeDecodeRoundTrip : Obligations.EncodeDecodeRoundTrip := fun _ _ => Machine.wf_and_encode_of_decode

/-- Settles O1: the words of the table are encodings. -/
theorem decodeGivesTheTableWords : Obligations.DecodeGivesTheTableWords :=
  ⟨decode_encode (i := .tick) rfl, decode_encode (i := .edge 0x03#8) rfl, decode_encode (i := .transUnknown) rfl,
    decode_encode (i := .transBooting) rfl, decode_encode (i := .transIdle) rfl, decode_encode (i := .transShuttingDown) rfl,
    decode_encode (i := .transPoweredOff) rfl, decode_encode (i := .adv 200#10) rfl, decode_encode (i := .init) rfl⟩

/-! ### The rows of the opcode table -/

/-- The nine rows of spec/opcode_table.json. -/
def opcodeRows : List Row :=
  [rowOf .tick, rowOf (.edge 0#8), rowOf .transUnknown, rowOf .transBooting, rowOf .transIdle, rowOf .transShuttingDown,
    rowOf .transPoweredOff, rowOf (.adv 0#10), rowOf .init]

theorem rowOf_mem_opcodeRows (i : Instr) : rowOf i ∈ opcodeRows := by
  cases i <;> simp [opcodeRows, rowOf]

/-- A word of two rows makes their matches agree under both masks. -/
theorem matches_agree_of_holds {r q : Row} {w : Word} (hr : r.holds w = true) (hq : q.holds w = true) :
    r.matchBits &&& q.mask = q.matchBits &&& r.mask := by
  rw [Row.holds, beq_iff_eq] at hr hq
  rw [← hr, ← hq, BitVec.and_assoc, BitVec.and_assoc, BitVec.and_comm r.mask]

/-- The matches of two different rows of the table differ in a bit that both masks name. -/
theorem row_eq_of_matches_agree :
    ∀ r ∈ opcodeRows, ∀ q ∈ opcodeRows, r.matchBits &&& q.mask = q.matchBits &&& r.mask → r = q := by
  decide

/-- The encoding of every operation lies in its row, from the family `EncodedInRow`. -/
theorem rowOf_holds_encode : ∀ i : Instr, (rowOf i).holds (encode i) = true
  | .tick => Laws.EncodedInRow.tick
  | .edge pins => Laws.EncodedInRow.edge pins
  | .transUnknown => Laws.EncodedInRow.transUnknown
  | .transBooting => Laws.EncodedInRow.transBooting
  | .transIdle => Laws.EncodedInRow.transIdle
  | .transShuttingDown => Laws.EncodedInRow.transShuttingDown
  | .transPoweredOff => Laws.EncodedInRow.transPoweredOff
  | .adv dur => Laws.EncodedInRow.adv dur
  | .init => Laws.EncodedInRow.init

/-- Settles O5: a common word makes two rows agree, which only equal rows of the table do, and a legal word is the encoding
of what it decodes to. -/
theorem opcodeRowsAreDisjoint : Obligations.OpcodeRowsAreDisjoint := by
  refine ⟨fun i j w hi hj => ?_, fun w i h => ?_⟩
  · exact row_eq_of_matches_agree _ (rowOf_mem_opcodeRows i) _ (rowOf_mem_opcodeRows j) (matches_agree_of_holds hi hj)
  · obtain ⟨-, rfl⟩ := Machine.wf_and_encode_of_decode h
    exact rowOf_holds_encode i

/-! ### Byte streams -/

/-- Reading back the bytes of a list of words, low byte first, gives the words (R41). -/
theorem wordsOfBytes_bytesOfWords (ws : List Word) : wordsOfBytes (bytesOfWords ws) = some ws := by
  induction ws with
  | nil => rfl
  | cons w ws ih =>
    change (wordsOfBytes (bytesOfWords ws)).map ((w.extractLsb' 8 8 ++ w.extractLsb' 0 8) :: ·) = some (w :: ws)
    rw [ih, word_eq_bytes, Option.map_some]

/-- A stream of odd length ends in half a word (R42). -/
theorem wordsOfBytes_of_odd : ∀ {bytes : List Byte}, bytes.length % 2 = 1 → wordsOfBytes bytes = none
  | [], h => by simp at h
  | [_], _ => rfl
  | _ :: _ :: rest, h => by
    have hrest : rest.length % 2 = 1 := by
      rw [List.length_cons, List.length_cons] at h
      omega
    rw [wordsOfBytes, wordsOfBytes_of_odd hrest, Option.map_none]

/-- Settles O6: `presentBytes` follows what `wordsOfBytes` reads, which `wordsOfBytes_bytesOfWords` and
`wordsOfBytes_of_odd` say. -/
theorem byteStreamsAreLittleEndian : Obligations.ByteStreamsAreLittleEndian := by
  refine ⟨fun ws s => ?_, fun bytes s h => ?_⟩
  · have hread : wordsOfBytes (ws.flatMap fun w => [w.extractLsb' 0 8, w.extractLsb' 8 8]) = some ws :=
      wordsOfBytes_bytesOfWords ws
    rw [Machine.presentBytes, hread]
  · rw [Machine.presentBytes, wordsOfBytes_of_odd h]

end Sys2Proof

namespace Sys2Proof.Machine

/-! ### PRESS and RELEASE -/

/-- The button bit of the sample of R69 is its first level. -/
theorem sample_getLsbD_zero (b r : Bool) : (sample b r).getLsbD 0 = b := by
  cases b <;> cases r <;> rfl

/-- Settles O7: the samples of R69 hold the button's level in bit 0, which rises by `buttonRises_eq`. -/
theorem pressRisesOnlyFromALowSnapshot : Obligations.PressRisesOnlyFromALowSnapshot := by
  intro r snap
  refine ⟨sample true r, sample false r, rfl, rfl, ?_, ?_, ?_, ?_⟩
  · rw [buttonRises_eq, sample_getLsbD_zero, Bool.true_and]
  · rw [buttonRises_eq, sample_getLsbD_zero, Bool.false_and]
  · cases r <;> rfl
  · cases r <;> rfl

end Sys2Proof.Machine
end

section
/-! PROOFS. 10_state.md section 8 and R81: what each operation can do where it is not refused, said once for all of them
(`exec_effect`), and what a step can do (`step_effect`); the parameters are never written, and entry to a timed state clears
the clock. -/

namespace Sys2Proof.Machine

/-! ### What an operation can do -/

/-- `s` ticks by `TickTimed(p, limit, nxt)` (R110). -/
inductive TimedAction (s : State) : Nat → Nat → EntryPos → Prop
  | booting (hs : s.state = .booting) : TimedAction s s.cfg.bootTickMs s.cfg.bootTimeout .idle
  | shuttingDown (hs : s.state = .shuttingDown) :
      TimedAction s s.cfg.shutdownTickMs s.cfg.shutdownTimeout (.poweredOff 0)

theorem TimedAction.isTimed {s : State} {p limit : Nat} {nxt : EntryPos} (h : TimedAction s p limit nxt) :
    timed s.state = true := by
  cases h <;> simp [timed, *]

/-- Every effect an operation has where it is not refused, with the condition for it. -/
inductive Effect (s : State) : Instr → State → Prop
  /-- INIT (R180). -/
  | init : Effect s .init (transition .poweredOff (clearForInit s))
  /-- The five TRANS (R82). -/
  | trans (st : SupervisorState) : Effect s (transOp st) (transition st s)
  /-- ADV, which writes the clock only (R101, R105). -/
  | adv (dur : BitVec 10) (c : Nat) (m : BitVec 10) (hdur : dur.toNat ≤ 999)
      (hadv : advance dur.toNat s = some (withClock c m s)) : Effect s (.adv dur) (withClock c m s)
  /-- The host-ready rule (R133). -/
  | edgeReady (pins : Byte) (hs : s.state = .booting) :
      Effect s (.edge pins) { s with snap := pins, asleep := false, sec := s.cfg.bootTimeout % 2 ^ s.cfg.secW }
  /-- The button rule in `Idle` (R135). -/
  | edgeShutdown (pins : Byte) (hs : s.state = .idle) (hrise : buttonRises pins s.snap = true) :
      Effect s (.edge pins) (transition .shuttingDown { s with snap := pins, asleep := false })
  /-- The button rule in `PoweredOff` (R136). -/
  | edgeBoot (pins : Byte) (hs : s.state = .poweredOff) (hrise : buttonRises pins s.snap = true) :
      Effect s (.edge pins) (transition .booting { s with snap := pins, asleep := false })
  /-- An EDGE on which no rule acts (R134, R137, R139). -/
  | edgeRecord (pins : Byte) : Effect s (.edge pins) { s with snap := pins, asleep := false }
  /-- A TICK that holds, or blinks in `Unknown` (R115, R116). -/
  | tickNothing : Effect s .tick s
  /-- A TICK in a state that sleeps (R113, R114). -/
  | tickSleep (ha : awake s) (hs : s.state = .idle ∨ s.state = .poweredOff) : Effect s .tick (tickSleep s)
  /-- A TICK of a timed state below its limit (R111, R112). -/
  | tickCount {p limit : Nat} {nxt : EntryPos} (c : Nat) (m : BitVec 10) (hact : TimedAction s p limit nxt)
      (hadv : advance p (toggleLed s) = some (withClock c m (toggleLed s))) (hbelow : c < limit) :
      Effect s .tick (withClock c m (toggleLed s))
  /-- A TICK of a timed state with its whole timeout transition (R111, R112). -/
  | tickTimeout {p limit : Nat} {nxt : EntryPos} (c : Nat) (m : BitVec 10) (hact : TimedAction s p limit nxt)
      (hadv : advance p (toggleLed s) = some (withClock c m (toggleLed s))) (hlimit : limit ≤ c) :
      Effect s .tick (transition nxt.target (withClock c m (toggleLed s)))
  /-- A TICK of a timed state with the first half of its timeout transition (R120). -/
  | tickTimeoutSplit {p limit : Nat} {nxt : EntryPos} (c : Nat) (m : BitVec 10) (hact : TimedAction s p limit nxt)
      (hadv : advance p (toggleLed s) = some (withClock c m (toggleLed s))) (hlimit : limit ≤ c) (ha : awake s)
      (hr : s.cfg.entryRace = true) :
      Effect s .tick { withClock c m (toggleLed s) with state := nxt.target, entryPending := some nxt }

theorem exists_withClock_of_advance {d : Nat} {s t : State} (h : advance d s = some t) : ∃ c m, t = withClock c m s :=
  ⟨t.sec, t.subsec, advanceWritesOnlyTheClock d s t h⟩

theorem execTrans_effect (st : SupervisorState) {s t : State} (h : exec (transOp st) s = .next t) :
    Effect s (transOp st) t := by
  rw [exec_transOp] at h
  obtain ⟨-, hbody⟩ := requireInit_next h
  cases hbody
  exact .trans st

theorem execAdv_effect {dur : BitVec 10} {s t : State} (h : execAdv dur s = .next t) : Effect s (.adv dur) t := by
  obtain ⟨-, hdur, hadv⟩ := execAdv_next h
  obtain ⟨c, m, rfl⟩ := exists_withClock_of_advance hadv
  exact .adv dur c m hdur hadv

theorem execEdge_effect {pins : Byte} {s t : State} (h : execEdge pins s = .next t) : Effect s (.edge pins) t := by
  obtain ⟨-, rfl⟩ := execEdge_next h
  obtain ⟨hs, -, heq⟩ | ⟨hs, hrise, heq⟩ | ⟨hs, hrise, heq⟩ | ⟨-, -, heq⟩ := edgeDetect_cases pins s <;> rw [heq]
  · exact .edgeReady pins hs
  · exact .edgeShutdown pins hs hrise
  · exact .edgeBoot pins hs hrise
  · exact .edgeRecord pins

theorem tickTimed_effect {p limit : Nat} {nxt : EntryPos} {s t : State} (hact : TimedAction s p limit nxt) (ha : awake s)
    (h : tickTimed p limit nxt s = .next t) : Effect s .tick t := by
  obtain ⟨u, hadv, hcases⟩ := tickTimed_cases h
  obtain ⟨c, m, rfl⟩ := exists_withClock_of_advance hadv
  obtain ⟨hbelow, rfl⟩ | ⟨hlimit, -, rfl⟩ | ⟨hlimit, hr, rfl⟩ := hcases
  · exact .tickCount c m hact hadv hbelow
  · exact .tickTimeout c m hact hadv hlimit
  · exact .tickTimeoutSplit c m hact hadv hlimit ha hr

theorem execTick_effect {s t : State} (h : execTick s = .next t) : Effect s .tick t := by
  obtain ⟨-, ⟨-, rfl⟩ | ⟨hh, ⟨hs, ht⟩ | ⟨hs, ht⟩ | ⟨hs, rfl⟩ | ⟨-, rfl⟩⟩⟩ := execTick_cases h
  · exact .tickNothing
  · exact tickTimed_effect (.booting hs) (awake_of_not_held hh) ht
  · exact tickTimed_effect (.shuttingDown hs) (awake_of_not_held hh) ht
  · exact .tickSleep (awake_of_not_held hh) hs
  · exact .tickNothing

/-- Every operation. -/
theorem exec_effect {i : Instr} {s t : State} (h : exec i s = .next t) : Effect s i t := by
  cases i with
  | tick => exact execTick_effect h
  | edge pins => exact execEdge_effect h
  | transUnknown => exact execTrans_effect .unknown h
  | transBooting => exact execTrans_effect .booting h
  | transIdle => exact execTrans_effect .idle h
  | transShuttingDown => exact execTrans_effect .shuttingDown h
  | transPoweredOff => exact execTrans_effect .poweredOff h
  | adv dur => exact execAdv_effect h
  | init =>
    cases h
    exact .init

/-! ### What a step can do -/

/-- The state without its first turn. -/
def takeTurn (s : State) : State := { s with agenda := s.agenda.tail }

/-- The first turn is the main line's, which with nothing presented is the one that comes (assumption log 5). -/
def mainLineNext (s : State) : Prop := s.agenda = [] ∨ ∃ rest, s.agenda = .mainLine :: rest

/-- The first turn runs the operation: a TICK of the main line, or the presented operation. -/
def runsNext (s : State) (i : Instr) : Prop :=
  mainLineNext s ∧ i = .tick ∨ ∃ w rest, s.agenda = .op w :: rest ∧ decode w = .instr i

/-- Every effect a step has where it is not refused. -/
inductive StepEffect (s : State) : State → Prop
  /-- SLEEP_ENTER (R119). -/
  | sleepEnter (hturn : mainLineNext s) (hp : s.sleepPending = true) : StepEffect s (sleepEnter (takeTurn s))
  /-- ENTRY_STEP (R120). -/
  | entryStep (hturn : mainLineNext s) (p : EntryPos) (hsleep : s.sleepPending = false) (hp : s.entryPending = some p) :
      StepEffect s (entryStep p (takeTurn s))
  /-- An operation. -/
  | op {i : Instr} {t : State} (hturn : runsNext s i) (he : Effect (takeTurn s) i t) : StepEffect s t

theorem step_effect {s t : State} (h : step s = .next t) : StepEffect s t := by
  obtain ⟨hturn, hm⟩ | ⟨w, i, rest, ha, hw, he⟩ := step_cases h
  · obtain ⟨hp, rfl⟩ | ⟨p, hsleep, hp, rfl⟩ | ⟨-, -, htick⟩ := mainLineTurn_cases hm
    · exact .sleepEnter hturn hp
    · exact .entryStep hturn p hsleep hp
    · exact .op (.inl ⟨hturn, rfl⟩) (execTick_effect htick)
  · refine .op (.inr ⟨w, rest, ha, hw⟩) (exec_effect ?_)
    rwa [takeTurn, ha, List.tail_cons]

/-! ### The model's own fields -/

@[simp] theorem tickSleep_cfg (s : State) : (tickSleep s).cfg = s.cfg := by unfold tickSleep; split <;> rfl
@[simp] theorem tickSleep_agenda (s : State) : (tickSleep s).agenda = s.agenda := by unfold tickSleep; split <;> rfl
@[simp] theorem entryStep_cfg (p : EntryPos) (s : State) : (entryStep p s).cfg = s.cfg := by simp [entryStep]
@[simp] theorem entryStep_agenda (p : EntryPos) (s : State) : (entryStep p s).agenda = s.agenda := by simp [entryStep]

theorem Effect.keeps_own_fields {i : Instr} {s t : State} (h : Effect s i t) : t.cfg = s.cfg ∧ t.agenda = s.agenda := by
  cases h with
  | init | trans | edgeShutdown | edgeBoot | tickSleep => simp
  | tickTimeout c m hact => exact ⟨transition_cfg _ _, transition_agenda _ _⟩
  | adv | edgeReady | edgeRecord | tickNothing | tickCount | tickTimeoutSplit => exact ⟨rfl, rfl⟩

theorem StepEffect.own_fields {s t : State} (h : StepEffect s t) : t.cfg = s.cfg ∧ t.agenda = s.agenda.tail := by
  cases h with
  | sleepEnter => exact ⟨rfl, rfl⟩
  | entryStep => exact ⟨entryStep_cfg _ _, entryStep_agenda _ _⟩
  | op _ he => exact he.keeps_own_fields

/-- Settles O11: no effect of a step writes the model's own fields, once the turn is taken. -/
theorem stepKeepsTheParameters : Obligations.StepKeepsTheParameters := fun _ _ h => (step_effect h).own_fields

/-! ### Entry to a timed state -/

@[simp] theorem EntryPos.target_not_timed (p : EntryPos) : timed p.target = false := by
  cases p <;> rfl

/-- A timed state that the operation has entered, or names in its TRANS, has a clear clock: the effects that end in a timed
state keep STATE or are `transition` to it. -/
theorem Effect.clear_clock_of_entry {i : Instr} {s t : State} (h : Effect s i t) (ht : timed t.state = true)
    (hentry : t.state ≠ s.state ∨ i = .transBooting ∨ i = .transShuttingDown) : t.sec = 0 ∧ t.subsec = 0#10 := by
  cases h with
  | trans st => exact transition_clock_of_timed s (by simpa using ht)
  | edgeShutdown => exact ⟨rfl, rfl⟩
  | edgeBoot => exact ⟨rfl, rfl⟩
  | init => simp [timed] at ht
  | tickTimeout | tickTimeoutSplit => simp at ht
  | adv | edgeReady | edgeRecord | tickNothing | tickSleep | tickCount => simp at hentry

/-- Settles O17, from the effects of the operations. -/
theorem enteringATimedStateClearsTheClock : Obligations.EnteringATimedStateClearsTheClock := fun _ _ _ h =>
  (exec_effect h).clear_clock_of_entry

end Sys2Proof.Machine
end

section
/-! PROOFS. 10_state.md section 3 and 5: every step keeps the invariant of all runs. -/

namespace Sys2Proof.Machine

/-! ### What the invariant reads -/

/-- The invariant reads the parameters, the clock and what the main line waits for. -/
theorem Inv.of_same_waits {s t : State} (h : Inv s) (hcfg : t.cfg = s.cfg) (hm : t.subsec.toNat ≤ 999)
    (hc : t.sec < 2 ^ s.cfg.secW) (ha : t.asleep = s.asleep) (hp : t.sleepPending = s.sleepPending)
    (he : t.entryPending = s.entryPending) : Inv t where
  legal := by rw [hcfg]; exact h.legal
  subsec_le := hm
  sec_lt := by rw [hcfg]; exact hc
  sleepPending_race := by rw [hcfg, hp]; exact h.sleepPending_race
  entryPending_race := by rw [hcfg, he]; exact h.entryPending_race
  asleep_alone := by rw [ha, hp, he]; exact h.asleep_alone
  sleepPending_alone := by rw [hp, he]; exact h.sleepPending_alone

theorem Inv.of_awake {s : State} (hl : s.cfg.Legal) (hm : s.subsec.toNat ≤ 999) (hc : s.sec < 2 ^ s.cfg.secW)
    (ha : awake s) : Inv s := by
  obtain ⟨hasleep, hsleep, hentry⟩ := ha
  exact ⟨hl, hm, hc, fun _ => hsleep, fun _ => hentry, by simp [hasleep], fun _ => hentry⟩

/-! ### The updates that keep it -/

section
variable {s : State} (h : Inv s)
include h

theorem inv_withClock {c : Nat} {m : BitVec 10} (hm : m.toNat ≤ 999) (hc : c < 2 ^ s.cfg.secW) : Inv (withClock c m s) :=
  h.of_same_waits rfl hm hc rfl rfl rfl

theorem inv_takeTurn : Inv (takeTurn s) := h.of_same_waits rfl h.subsec_le h.sec_lt rfl rfl rfl

/-- A transition keeps the clock or clears it. -/
theorem inv_transition (st : SupervisorState) : Inv (transition st s) := by
  refine h.of_same_waits (by simp) ?_ ?_ (by simp) (by simp) (by simp)
  · cases st with
    | booting | shuttingDown => exact Nat.zero_le 999
    | unknown | idle | poweredOff => exact h.subsec_le
  · cases st with
    | booting | shuttingDown => exact Nat.two_pow_pos _
    | unknown | idle | poweredOff => exact h.sec_lt

theorem inv_recordAndWake (pins : Byte) : Inv { s with snap := pins, asleep := false } :=
  ⟨h.legal, h.subsec_le, h.sec_lt, h.sleepPending_race, h.entryPending_race, nofun, h.sleepPending_alone⟩

/-- An awake main line takes up one thing to wait for, the one its parameter admits. -/
theorem inv_tickSleep (ha : awake s) : Inv (tickSleep s) := by
  obtain ⟨hasleep, hsleep, hentry⟩ := ha
  cases hr : s.cfg.sleepRace with
  | false =>
    rw [tickSleep_of_whole hr]
    exact ⟨h.legal, h.subsec_le, h.sec_lt, fun _ => hsleep, fun _ => hentry, fun _ => ⟨hsleep, hentry⟩, fun _ => hentry⟩
  | true =>
    rw [tickSleep_of_split hr]
    exact ⟨h.legal, h.subsec_le, h.sec_lt, by simp [hr], fun _ => hentry, by simp [hasleep], fun _ => hentry⟩

theorem inv_entryPending (ha : awake s) (hr : s.cfg.entryRace = true) (st : SupervisorState) (e : Option EntryPos) :
    Inv { s with state := st, entryPending := e } := by
  obtain ⟨hasleep, hsleep, -⟩ := ha
  exact ⟨h.legal, h.subsec_le, h.sec_lt, fun _ => hsleep, by simp [hr], by simp [hasleep], by simp [hsleep]⟩

/-- SLEEP_ENTER turns the one wait into the other. -/
theorem inv_sleepEnter (hp : s.sleepPending = true) : Inv (sleepEnter s) :=
  ⟨h.legal, h.subsec_le, h.sec_lt, fun _ => rfl, h.entryPending_race, fun _ => ⟨rfl, h.sleepPending_alone hp⟩, nofun⟩

/-- An ENTRY_STEP is pending only under ENTRY_RACE, and then nothing else is. -/
theorem inv_entryStep {p : EntryPos} (hp : s.entryPending = some p) : Inv (entryStep p s) := by
  have hasleep : s.asleep = false := by
    cases ha : s.asleep with
    | false => rfl
    | true => cases hp.symm.trans (h.asleep_alone ha).right
  have hsleep : s.sleepPending = false := by
    cases hsp : s.sleepPending with
    | false => rfl
    | true => cases hp.symm.trans (h.sleepPending_alone hsp)
  have hrace : s.cfg.entryRace = true := by
    cases hr : s.cfg.entryRace with
    | true => rfl
    | false => cases hp.symm.trans (h.entryPending_race hr)
  rw [entryStep_frame]
  exact ⟨h.legal, h.subsec_le, h.sec_lt, fun _ => hsleep, by simp [hrace], by simp [hasleep], by simp [hsleep]⟩

/-- `Advance` keeps the clock in range: SUBSEC is reduced below 1000, and a carry past SEC is refused (R102, R103). -/
theorem inv_of_advance {d c : Nat} {m : BitVec 10} (hd : d ≤ 999) (hadv : advance d s = some (withClock c m s)) :
    Inv (withClock c m s) := by
  have hm := h.subsec_le
  obtain ⟨-, heq⟩ | ⟨-, hsum, heq⟩ | ⟨-, hsum, hroom, heq⟩ := advance_cases hadv <;> rw [heq]
  · exact h
  · exact inv_withClock h (by rw [BitVec.toNat_ofNat]; omega) h.sec_lt
  · exact inv_withClock h (by rw [BitVec.toNat_ofNat]; omega) hroom

end

theorem TimedAction.period_le {s : State} {p limit : Nat} {nxt : EntryPos} (h : TimedAction s p limit nxt)
    (hl : s.cfg.Legal) : p ≤ 999 := by
  obtain ⟨-, -, -, ⟨-, hboot⟩, ⟨-, hshutdown⟩, -⟩ := hl
  cases h with
  | booting => exact hboot
  | shuttingDown => exact hshutdown

/-! ### Every operation and every step -/

/-- INIT leaves nothing to wait for and a clear clock. -/
theorem inv_clearForInit {s : State} (hl : s.cfg.Legal) : Inv (clearForInit s) :=
  .of_awake hl (Nat.zero_le 999) (Nat.two_pow_pos _) ⟨rfl, rfl, rfl⟩

theorem inv_toggleLed {s : State} (h : Inv s) : Inv (toggleLed s) :=
  h.of_same_waits rfl h.subsec_le h.sec_lt rfl rfl rfl

theorem Effect.keeps_inv {i : Instr} {s t : State} (h : Inv s) (he : Effect s i t) : Inv t := by
  have hticked {p limit : Nat} {nxt : EntryPos} {c : Nat} {m : BitVec 10} (hact : TimedAction s p limit nxt)
      (hadv : advance p (toggleLed s) = some (withClock c m (toggleLed s))) : Inv (withClock c m (toggleLed s)) :=
    inv_of_advance (inv_toggleLed h) (hact.period_le h.legal) hadv
  cases he with
  | init => exact inv_transition (inv_clearForInit h.legal) _
  | trans st => exact inv_transition h st
  | adv dur c m hdur hadv => exact inv_of_advance h hdur hadv
  | edgeReady pins =>
    exact (inv_recordAndWake h pins).of_same_waits rfl h.subsec_le (Nat.mod_lt _ (Nat.two_pow_pos _)) rfl rfl rfl
  | edgeShutdown pins => exact inv_transition (inv_recordAndWake h pins) _
  | edgeBoot pins => exact inv_transition (inv_recordAndWake h pins) _
  | edgeRecord pins => exact inv_recordAndWake h pins
  | tickNothing => exact h
  | tickSleep ha => exact inv_tickSleep h ha
  | tickCount c m hact hadv => exact hticked hact hadv
  | tickTimeout c m hact hadv => exact inv_transition (hticked hact hadv) _
  | tickTimeoutSplit c m hact hadv _ ha hr => exact inv_entryPending (hticked hact hadv) ha hr _ _

theorem StepEffect.keeps_inv {s t : State} (h : Inv s) (he : StepEffect s t) : Inv t := by
  cases he with
  | sleepEnter _ hp => exact inv_sleepEnter (inv_takeTurn h) hp
  | entryStep _ p _ hp => exact inv_entryStep (inv_takeTurn h) hp
  | op _ he => exact he.keeps_inv (inv_takeTurn h)

/-- Settles O43: each effect of a step is built from updates that keep the invariant. -/
theorem stepKeepsTheInvariant : Obligations.StepKeepsTheInvariant := fun _ _ h hstep => (step_effect hstep).keeps_inv h

end Sys2Proof.Machine
end

section
/-! PROOFS. 00_scope.md section 6, R23, R25, R90 and R91: a defined flow starts with INIT, keeps its invariant, is never
refused, and changes STATE along the transition table only. -/

namespace Sys2Proof.Machine

/-! ### STATE, SEC and the lines of a defined flow -/

/-- The part of `DefinedInv` about STATE, SEC and the lines. -/
structure FlowElements (s : State) : Prop where
  known : s.state ≠ .unknown
  sec_booting : s.state = .booting → s.sec ≤ s.cfg.bootTimeout
  sec_shuttingDown : s.state = .shuttingDown → s.sec ≤ s.cfg.shutdownTimeout - 1
  lines : s.cfg.entryRace = false → linesOfState s

theorem DefinedInv.elements {s : State} (h : DefinedInv s) : FlowElements s :=
  ⟨h.known, h.sec_booting, h.sec_shuttingDown, h.lines⟩

namespace FlowElements

variable {s t : State}

theorem of_booting (hs : s.state = .booting) (hc : s.sec ≤ s.cfg.bootTimeout)
    (hl : s.cfg.entryRace = false → s.outPwr = true ∧ s.outShdn = false) : FlowElements s :=
  ⟨by simp [hs], fun _ => hc, by simp [hs], by simpa [linesOfState, hs] using hl⟩

theorem of_idle (hs : s.state = .idle)
    (hl : s.cfg.entryRace = false → s.outPwr = true ∧ s.outShdn = false ∧ s.outLed = true) : FlowElements s :=
  ⟨by simp [hs], by simp [hs], by simp [hs], by simpa [linesOfState, hs] using hl⟩

theorem of_shuttingDown (hs : s.state = .shuttingDown) (hc : s.sec ≤ s.cfg.shutdownTimeout - 1)
    (hl : s.cfg.entryRace = false → s.outPwr = true ∧ s.outShdn = true) : FlowElements s :=
  ⟨by simp [hs], by simp [hs], fun _ => hc, by simpa [linesOfState, hs] using hl⟩

theorem of_poweredOff (hs : s.state = .poweredOff)
    (hl : s.cfg.entryRace = false → s.outPwr = false ∧ s.outShdn = false ∧ s.outLed = false) : FlowElements s :=
  ⟨by simp [hs], by simp [hs], by simp [hs], by simpa [linesOfState, hs] using hl⟩

theorem of_same_state (h : FlowElements s) (hcfg : t.cfg = s.cfg) (hs : t.state = s.state) (hc : t.sec = s.sec)
    (hl : s.cfg.entryRace = false → linesOfState s → linesOfState t) : FlowElements t where
  known := by rw [hs]; exact h.known
  sec_booting := by rw [hs, hc, hcfg]; exact h.sec_booting
  sec_shuttingDown := by rw [hs, hc, hcfg]; exact h.sec_shuttingDown
  lines := by rw [hcfg]; exact fun hr => hl hr (h.lines hr)

section
variable (h : FlowElements s) (hr : s.cfg.entryRace = false)
include h hr

theorem lines_of_booting (hs : s.state = .booting) : s.outPwr = true ∧ s.outShdn = false := by
  simpa [linesOfState, hs] using h.lines hr

theorem lines_of_idle (hs : s.state = .idle) : s.outPwr = true ∧ s.outShdn = false ∧ s.outLed = true := by
  simpa [linesOfState, hs] using h.lines hr

theorem lines_of_shuttingDown (hs : s.state = .shuttingDown) : s.outPwr = true ∧ s.outShdn = true := by
  simpa [linesOfState, hs] using h.lines hr

end

end FlowElements

/-! ### The operations of a defined flow keep it -/

@[simp] theorem definedOp_transOp (st : SupervisorState) : definedOp (transOp st) = false := by cases st <;> rfl

theorem flowElements_tickSleep {s : State} (h : FlowElements s) : FlowElements (tickSleep s) := by
  cases hr : s.cfg.sleepRace with
  | false =>
    rw [tickSleep_of_whole hr]
    exact h.of_same_state rfl rfl rfl fun _ hl => hl
  | true =>
    rw [tickSleep_of_split hr]
    exact h.of_same_state rfl rfl rfl fun _ hl => hl

/-- A tick below the limit leaves SEC within its bound and toggles the LED, which goes with no timed state. -/
theorem flowElements_of_count {s : State} {p limit c : Nat} {nxt : EntryPos} (h : FlowElements s)
    (hact : TimedAction s p limit nxt) (hbelow : c < limit) (m : BitVec 10) :
    FlowElements (withClock c m (toggleLed s)) := by
  cases hact with
  | booting hs => exact .of_booting hs hbelow.le fun hr => h.lines_of_booting hr hs
  | shuttingDown hs => exact .of_shuttingDown hs (Nat.le_sub_one_of_lt hbelow) fun hr => h.lines_of_shuttingDown hr hs

/-- The entry actions of the timeout leave the lines of the state they enter (R91). -/
theorem flowElements_of_timeout {s : State} {p limit : Nat} {nxt : EntryPos} (h : FlowElements s)
    (hact : TimedAction s p limit nxt) (c : Nat) (m : BitVec 10) :
    FlowElements (transition nxt.target (withClock c m (toggleLed s))) := by
  cases hact with
  | booting hs =>
    refine .of_idle rfl fun hr => ?_
    obtain ⟨hpwr, hshdn⟩ := h.lines_of_booting hr hs
    exact ⟨hpwr, hshdn, rfl⟩
  | shuttingDown hs => exact .of_poweredOff rfl fun _ => ⟨rfl, rfl, rfl⟩

/-- Under ENTRY_RACE the invariant says nothing of the lines. -/
theorem flowElements_of_split_timeout {s t : State} {p limit : Nat} {nxt : EntryPos} (hact : TimedAction s p limit nxt)
    (ht : t.state = nxt.target) (hr : t.cfg.entryRace = true) : FlowElements t := by
  cases hact with
  | booting => exact .of_idle ht (by simp [hr])
  | shuttingDown => exact .of_poweredOff ht (by simp [hr])

theorem Effect.keeps_flowElements {i : Instr} {s t : State} (h : FlowElements s) (hi : definedOp i = true)
    (he : Effect s i t) : FlowElements t := by
  cases he with
  | init => exact .of_poweredOff rfl fun _ => ⟨rfl, rfl, rfl⟩
  | trans st => simp at hi
  | adv => cases hi
  | edgeReady pins hs => exact .of_booting hs (Nat.mod_le _ _) fun hr => h.lines_of_booting hr hs
  | edgeShutdown pins hs => exact .of_shuttingDown rfl (Nat.zero_le _) fun hr => ⟨(h.lines_of_idle hr hs).left, rfl⟩
  | edgeBoot pins hs => exact .of_booting rfl (Nat.zero_le _) fun _ => ⟨rfl, rfl⟩
  | edgeRecord pins => exact h.of_same_state rfl rfl rfl fun _ hl => hl
  | tickNothing => exact h
  | tickSleep => exact flowElements_tickSleep h
  | tickCount c m hact _ hbelow => exact flowElements_of_count h hact hbelow m
  | tickTimeout c m hact => exact flowElements_of_timeout h hact c m
  | tickTimeoutSplit c m hact _ _ _ hr => exact flowElements_of_split_timeout hact rfl hr

@[simp] theorem tickSleep_inited (s : State) : (tickSleep s).inited = s.inited := by unfold tickSleep; split <;> rfl
@[simp] theorem entryStep_inited (p : EntryPos) (s : State) : (entryStep p s).inited = s.inited := by simp [entryStep]
@[simp] theorem entryStep_state (p : EntryPos) (s : State) : (entryStep p s).state = s.state := by simp [entryStep]

theorem Effect.keeps_inited {i : Instr} {s t : State} (h : s.inited = true) (he : Effect s i t) : t.inited = true := by
  cases he with
  | init => rfl
  | trans | edgeShutdown | edgeBoot | tickSleep | tickTimeout => simpa using h
  | adv | edgeReady | edgeRecord | tickNothing | tickCount | tickTimeoutSplit => exact h

theorem Effect.keeps_definedInv {i : Instr} {s t : State} (h : DefinedInv s) (hi : definedOp i = true)
    (he : Effect s i t) : DefinedInv t := by
  obtain ⟨hknown, hboot, hshutdown, hlines⟩ := he.keeps_flowElements h.elements hi
  obtain ⟨-, hagenda⟩ := he.keeps_own_fields
  exact ⟨he.keeps_inv h.inv, he.keeps_inited h.inited, hagenda ▸ h.flow, hknown, hboot, hshutdown, hlines⟩

/-! ### The turns of a defined flow -/

theorem definedInv_takeTurn {s : State} (h : DefinedInv s) : DefinedInv (takeTurn s) := by
  have hflow : s.agenda.tail.all Event.inDefinedFlow = true :=
    List.all_eq_true.mpr fun e he => List.all_eq_true.mp h.flow e (List.mem_of_mem_tail he)
  exact ⟨inv_takeTurn h.inv, h.inited, hflow, h.known, h.sec_booting, h.sec_shuttingDown, h.lines⟩

theorem definedOp_of_decode {s : State} {w : Word} {i : Instr} {rest : List Event} (h : DefinedInv s)
    (ha : s.agenda = .op w :: rest) (hw : decode w = .instr i) : definedOp i = true := by
  have hflow := h.flow
  rw [ha, List.all_cons, Bool.and_eq_true] at hflow
  simpa [Event.inDefinedFlow, hw] using hflow.left

theorem definedOp_of_runsNext {s : State} {i : Instr} (h : DefinedInv s) (hturn : runsNext s i) : definedOp i = true := by
  obtain ⟨-, rfl⟩ | ⟨w, rest, ha, hw⟩ := hturn
  · rfl
  · exact definedOp_of_decode h ha hw

theorem definedInv_sleepEnter {s : State} (h : DefinedInv s) (hp : s.sleepPending = true) : DefinedInv (sleepEnter s) :=
  ⟨inv_sleepEnter h.inv hp, h.inited, h.flow, h.known, h.sec_booting, h.sec_shuttingDown, h.lines⟩

/-- An ENTRY_STEP writes a line and is pending under ENTRY_RACE only, where the invariant says nothing of the lines. -/
theorem definedInv_entryStep {s : State} {p : EntryPos} (h : DefinedInv s) (hp : s.entryPending = some p) :
    DefinedInv (entryStep p s) := by
  have helements : FlowElements (entryStep p s) := by
    refine h.elements.of_same_state (by simp) (by simp) (by simp) fun hr => ?_
    cases hp.symm.trans (h.inv.entryPending_race hr)
  obtain ⟨hknown, hboot, hshutdown, hlines⟩ := helements
  exact ⟨inv_entryStep h.inv hp, by simpa using h.inited, by simpa using h.flow, hknown, hboot, hshutdown, hlines⟩

theorem StepEffect.keeps_definedInv {s t : State} (h : DefinedInv s) (he : StepEffect s t) : DefinedInv t := by
  cases he with
  | sleepEnter _ hp => exact definedInv_sleepEnter (definedInv_takeTurn h) hp
  | entryStep _ p _ hp => exact definedInv_entryStep (definedInv_takeTurn h) hp
  | op hturn he => exact he.keeps_definedInv (definedInv_takeTurn h) (definedOp_of_runsNext h hturn)

/-- Settles O45: each effect of a step of a defined flow keeps STATE known, SEC within its bound and the lines those of the
state. -/
theorem definedFlowKeepsItsInvariant : Obligations.DefinedFlowKeepsItsInvariant := fun _ _ h hstep =>
  (step_effect hstep).keeps_definedInv h

/-! ### A defined flow goes on -/

/-- SEC has room for the one carry of a tick (R103). -/
theorem exec_tick_of_ticksTimed {s : State} {p limit : Nat} {nxt : EntryPos} (h : DefinedInv s)
    (ht : TicksTimed p limit nxt s) : ∃ t, exec .tick s = .next t := by
  have hroom : (toggleAndCount p s).sec < 2 ^ s.cfg.secW := by
    have hcarry : s.sec + 1 < 2 ^ s.cfg.secW := not_le.mp fun hfull => not_secFull_of_definedInv h ⟨ht.isTimed, hfull⟩
    have hm := ht.subsec_le
    have hp := ht.period_le
    rw [toggleAndCount_sec]
    omega
  exact ⟨_, ht.exec_of_room h.inited hroom⟩

/-- A TICK that holds passes (R116; assumption log 6). -/
theorem exec_tick_of_held {s : State} (hi : s.inited = true) (hh : held s = true) : exec .tick s = .next s := by
  simp [exec, execTick, hi, hh]

theorem exec_tick_of_definedInv {s : State} (h : DefinedInv s) : ∃ t, exec .tick s = .next t := by
  cases hh : held s with
  | true => exact ⟨s, exec_tick_of_held h.inited hh⟩
  | false =>
    have ha := awake_of_not_held hh
    cases hs : s.state with
    | unknown => exact absurd hs h.known
    | booting => exact exec_tick_of_ticksTimed h (ticksTimed_booting h.inv ha hs)
    | shuttingDown => exact exec_tick_of_ticksTimed h (ticksTimed_shuttingDown h.inv ha hs)
    | idle => exact ⟨_, exec_tick_of_sleeping_state h.inited ha (.inl hs)⟩
    | poweredOff => exact ⟨_, exec_tick_of_sleeping_state h.inited ha (.inr hs)⟩

theorem exec_of_definedInv {i : Instr} {s : State} (h : DefinedInv s) (hi : definedOp i = true) :
    ∃ t, exec i s = .next t := by
  cases i with
  | tick => exact exec_tick_of_definedInv h
  | edge pins => exact ⟨_, exec_edge_inited h.inited⟩
  | init => exact ⟨_, exec_init s⟩
  | transUnknown | transBooting | transIdle | transShuttingDown | transPoweredOff | adv => cases hi

theorem mainLineTurn_of_definedInv {s : State} (h : DefinedInv s) : ∃ t, mainLineTurn s = .next t := by
  unfold mainLineTurn
  split
  · exact ⟨_, rfl⟩
  · split
    · exact ⟨_, rfl⟩
    · exact exec_tick_of_definedInv h

theorem step_of_definedInv {s : State} (h : DefinedInv s) : ∃ t, step s = .next t := by
  have htaken := definedInv_takeTurn h
  cases ha : s.agenda with
  | nil =>
    rw [step_nil ha]
    exact mainLineTurn_of_definedInv h
  | cons e rest =>
    rw [takeTurn, ha, List.tail_cons] at htaken
    rw [step_cons ha]
    cases e with
    | mainLine => exact mainLineTurn_of_definedInv htaken
    | op w =>
      cases hw : decode w with
      | instr i =>
        rw [perform, performWord_instr hw]
        exact exec_of_definedInv htaken (definedOp_of_decode h ha hw)
      | illegal why =>
        have hflow := h.flow
        simp [ha, Event.inDefinedFlow, hw] at hflow

/-- Settles O46: a step of a defined flow is not refused (`step_of_definedInv`) and leads to a state of one, for every
number of steps. -/
theorem definedFlowAlwaysGoesOn : Obligations.DefinedFlowAlwaysGoesOn := by
  intro s k h
  induction k generalizing s with
  | zero => exact ⟨s, runSteps_zero s, h⟩
  | succ k ih =>
    obtain ⟨u, hstep⟩ := step_of_definedInv h
    rw [runSteps_succ_next hstep]
    exact ih u (definedFlowKeepsItsInvariant s u h hstep)

/-! ### INIT starts a defined flow -/

theorem definedInv_of_init {s : State} (hl : s.cfg.Legal) (hflow : s.agenda.all Event.inDefinedFlow = true) :
    DefinedInv (transition .poweredOff (clearForInit s)) where
  inv := inv_transition (inv_clearForInit hl) _
  inited := rfl
  flow := hflow
  known := nofun
  sec_booting := nofun
  sec_shuttingDown := nofun
  lines _ := ⟨rfl, rfl, rfl⟩

/-- Settles O47: the word is that of INIT (`initGivesTheResetTable`), which needs legal parameters only. -/
theorem initStartsADefinedFlow : Obligations.InitStartsADefinedFlow := by
  intro s rest hl ha hflow
  refine ⟨_, step_presented ha initGivesTheResetTable.left, ?_⟩
  exact definedInv_of_init (s := { s with agenda := rest }) hl hflow

/-- Settles O44: INIT answers the reset state from itself. -/
theorem resetMeetsTheInvariants : Obligations.ResetMeetsTheInvariants := by
  have hreset : DefinedInv State.reset := definedInv_of_init (s := State.reset) (by decide) rfl
  exact ⟨hreset.inv, hreset⟩

/-! ### The transition table -/

theorem agenda_of_runsNext {s : State} {i : Instr} (h : runsNext s i) :
    mainLineNext s ∧ i = .tick ∨ ∃ rest, s.agenda = .op (encode i) :: rest := by
  obtain hmain | ⟨w, rest, ha, hw⟩ := h
  · exact .inl hmain
  · obtain ⟨-, rfl⟩ := wf_and_encode_of_decode hw
    exact .inr ⟨rest, ha⟩

/-- The turns that run a TICK. -/
theorem agenda_of_runsNext_tick {s : State} (h : runsNext s .tick) :
    s.agenda = [] ∨ ∃ rest, s.agenda = .mainLine :: rest ∨ s.agenda = .op 0x2000#16 :: rest := by
  obtain ⟨hnil | ⟨rest, hmain⟩, -⟩ | ⟨rest, hop⟩ := agenda_of_runsNext h
  · exact .inl hnil
  · exact .inr ⟨rest, .inl hmain⟩
  · exact .inr ⟨rest, .inr hop⟩

/-- INIT and EDGE come as their words. -/
theorem agenda_of_runsNext_of_ne_tick {s : State} {i : Instr} (h : runsNext s i) (hi : i ≠ .tick) :
    ∃ rest, s.agenda = .op (encode i) :: rest := by
  obtain ⟨-, rfl⟩ | hop := agenda_of_runsNext h
  · exact absurd rfl hi
  · exact hop

/-- The two rows of the table for TICK: STATE and SEC as a timeout leaves them, whole or split. -/
theorem timeout_transition {s t : State} {p limit : Nat} {nxt : EntryPos} (hact : TimedAction s p limit nxt)
    (ht : t.state = nxt.target) (hlimit : limit ≤ t.sec) :
    s.state = .booting ∧ t.state = .idle ∧ s.cfg.bootTimeout ≤ t.sec ∨
      s.state = .shuttingDown ∧ t.state = .poweredOff ∧ s.cfg.shutdownTimeout ≤ t.sec := by
  cases hact with
  | booting hs => exact .inl ⟨hs, ht, hlimit⟩
  | shuttingDown hs => exact .inr ⟨hs, ht, hlimit⟩

theorem transition_target_sec (p : EntryPos) (s : State) : (transition p.target s).sec = s.sec := by cases p <;> rfl

/-- STATE is changed by INIT, by a TRANS, by a button rising edge in a state that has a rule for it, or by a timeout. -/
theorem Effect.state_change {i : Instr} {s t : State} (he : Effect s i t) (hne : t.state ≠ s.state) :
    (i = .init ∧ t.state = .poweredOff) ∨ (∃ st, i = transOp st) ∨
      (∃ pins, i = .edge pins ∧ buttonRises pins s.snap = true ∧
        (s.state = .poweredOff ∧ t.state = .booting ∨ s.state = .idle ∧ t.state = .shuttingDown)) ∨
      (i = .tick ∧
        (s.state = .booting ∧ t.state = .idle ∧ s.cfg.bootTimeout ≤ t.sec ∨
          s.state = .shuttingDown ∧ t.state = .poweredOff ∧ s.cfg.shutdownTimeout ≤ t.sec)) := by
  cases he with
  | init => exact .inl ⟨rfl, rfl⟩
  | trans st => exact .inr (.inl ⟨st, rfl⟩)
  | edgeShutdown pins hs hrise => exact .inr (.inr (.inl ⟨pins, rfl, hrise, .inr ⟨hs, rfl⟩⟩))
  | edgeBoot pins hs hrise => exact .inr (.inr (.inl ⟨pins, rfl, hrise, .inl ⟨hs, rfl⟩⟩))
  | tickTimeout c m hact _ hlimit =>
    refine .inr (.inr (.inr ⟨rfl, timeout_transition hact (transition_state _ _) ?_⟩))
    rwa [transition_target_sec]
  | tickTimeoutSplit c m hact _ hlimit => exact .inr (.inr (.inr ⟨rfl, timeout_transition hact rfl hlimit⟩))
  | adv | edgeReady | edgeRecord | tickNothing | tickSleep | tickCount => simp at hne

/-- Settles O48: of the operations of a defined flow, the ones that change STATE (`Effect.state_change`), each with the
turns that run it. -/
theorem definedFlowTransitions : Obligations.DefinedFlowTransitions := by
  intro s t h hstep hne
  cases step_effect hstep with
  | sleepEnter => exact absurd rfl hne
  | entryStep _ p => exact absurd (entryStep_state p _) hne
  | op hturn he =>
    obtain ⟨rfl, ht⟩ | ⟨st, rfl⟩ | ⟨pins, rfl, hrise, hst⟩ | ⟨rfl, hst⟩ := he.state_change hne
    · exact .inl ⟨ht, agenda_of_runsNext_of_ne_tick hturn nofun⟩
    · simpa using definedOp_of_runsNext h hturn
    · obtain ⟨rest, ha⟩ := agenda_of_runsNext_of_ne_tick hturn nofun
      obtain ⟨hpin, hsnap⟩ := buttonRises_iff.mp hrise
      exact .inr (.inl ⟨pins, rest, ha, hpin, hsnap, hst⟩)
    · exact .inr (.inr ⟨agenda_of_runsNext_tick hturn, hst⟩)

end Sys2Proof.Machine
end

section
/-! PROOFS. 10_state.md section 8 (R36): for each element, the operations that can write it, read off `Effect`. -/

namespace Sys2Proof.Machine

@[simp] theorem tickSleep_clock (s : State) : (tickSleep s).sec = s.sec ∧ (tickSleep s).subsec = s.subsec := by
  unfold tickSleep; split <;> exact ⟨rfl, rfl⟩

@[simp] theorem tickSleep_snap (s : State) : (tickSleep s).snap = s.snap := by unfold tickSleep; split <;> rfl

theorem tickSleep_lines (s : State) :
    (tickSleep s).outPwr = s.outPwr ∧ (tickSleep s).outShdn = s.outShdn ∧ (tickSleep s).outLed = s.outLed := by
  unfold tickSleep; split <;> exact ⟨rfl, rfl, rfl⟩

theorem tickSleep_entryPending (s : State) : (tickSleep s).entryPending = s.entryPending := by
  unfold tickSleep; split <;> rfl

theorem transOp_mem (st : SupervisorState) :
    transOp st ∈ [Instr.transUnknown, .transBooting, .transIdle, .transShuttingDown, .transPoweredOff] := by
  cases st <;> simp [transOp]

/-- An `Advance` that moves the clock is one of a timed state (R100). -/
theorem timed_of_advance_of_ne {d c : Nat} {m : BitVec 10} {s : State} (hadv : advance d s = some (withClock c m s))
    (hne : c ≠ s.sec ∨ m ≠ s.subsec) : timed s.state = true := by
  rw [← Bool.not_eq_false]
  intro ht
  rw [advance_of_not_timed ht, Option.some.injEq] at hadv
  have hc : s.sec = c := congrArg State.sec hadv
  have hm : s.subsec = m := congrArg State.subsec hadv
  simp [hc, hm] at hne

namespace Effect

variable {i : Instr} {s t : State}

/-- The clock is moved in a timed state, cleared on entry to one, and set by the host-ready rule (R133). -/
theorem clock_change (he : Effect s i t) (hne : t.sec ≠ s.sec ∨ t.subsec ≠ s.subsec) :
    i = .init ∨ (i = .tick ∨ ∃ dur, i = .adv dur) ∧ timed s.state = true ∨
      (∃ pins, i = .edge pins) ∧
        (timed s.state = false ∧ timed t.state = true ∨
          s.state = .booting ∧ t.sec = s.cfg.bootTimeout % 2 ^ s.cfg.secW ∧ t.subsec = s.subsec) ∨
      i = .transBooting ∨ i = .transShuttingDown := by
  cases he with
  | init => exact .inl rfl
  | trans st =>
    cases st with
    | booting => exact .inr (.inr (.inr (.inl rfl)))
    | shuttingDown => exact .inr (.inr (.inr (.inr rfl)))
    | unknown | idle | poweredOff => exact absurd hne (by simp [transition_unknown, transition_idle, transition_poweredOff])
  | adv dur c m _ hadv => exact .inr (.inl ⟨.inr ⟨dur, rfl⟩, timed_of_advance_of_ne hadv hne⟩)
  | edgeReady pins hs => exact .inr (.inr (.inl ⟨⟨pins, rfl⟩, .inr ⟨hs, rfl, rfl⟩⟩))
  | edgeShutdown pins hs => exact .inr (.inr (.inl ⟨⟨pins, rfl⟩, .inl ⟨by rw [hs]; rfl, rfl⟩⟩))
  | edgeBoot pins hs => exact .inr (.inr (.inl ⟨⟨pins, rfl⟩, .inl ⟨by rw [hs]; rfl, rfl⟩⟩))
  | tickCount _ _ hact | tickTimeout _ _ hact | tickTimeoutSplit _ _ hact =>
    exact .inr (.inl ⟨.inl rfl, hact.isTimed⟩)
  | edgeRecord | tickNothing | tickSleep => simp at hne

theorem subsec_change (he : Effect s i t) (hne : t.subsec ≠ s.subsec) :
    i = .init ∨ (i = .tick ∨ ∃ dur, i = .adv dur) ∧ timed s.state = true ∨
      (∃ pins, i = .edge pins) ∧ timed s.state = false ∧ timed t.state = true ∨ i = .transBooting ∨
      i = .transShuttingDown := by
  obtain hi | hi | ⟨hedge, hentry | ⟨-, -, hsame⟩⟩ | hi := he.clock_change (.inr hne)
  · exact .inl hi
  · exact .inr (.inl hi)
  · exact .inr (.inr (.inl ⟨hedge, hentry⟩))
  · exact absurd hsame hne
  · exact .inr (.inr (.inr hi))

theorem sec_change (he : Effect s i t) (hne : t.sec ≠ s.sec) :
    i = .init ∨ (i = .tick ∨ ∃ dur, i = .adv dur) ∧ timed s.state = true ∨
      (∃ pins, i = .edge pins) ∧
        (timed s.state = false ∧ timed t.state = true ∨ s.state = .booting ∧ t.sec = s.cfg.bootTimeout % 2 ^ s.cfg.secW) ∨
      i = .transBooting ∨ i = .transShuttingDown := by
  obtain hi | hi | ⟨hedge, hentry | ⟨hs, hsec, -⟩⟩ | hi := he.clock_change (.inl hne)
  · exact .inl hi
  · exact .inr (.inl hi)
  · exact .inr (.inr (.inl ⟨hedge, .inl hentry⟩))
  · exact .inr (.inr (.inl ⟨hedge, .inr ⟨hs, hsec⟩⟩))
  · exact .inr (.inr (.inr hi))

theorem snap_change (he : Effect s i t) (hne : t.snap ≠ s.snap) : i = .init ∨ ∃ pins, i = .edge pins := by
  cases he with
  | init => exact .inl rfl
  | edgeReady pins | edgeShutdown pins | edgeBoot pins | edgeRecord pins => exact .inr ⟨pins, rfl⟩
  | trans | tickSleep | tickTimeout => simp [withClock] at hne
  | adv | tickNothing | tickCount | tickTimeoutSplit => exact absurd rfl hne

theorem outPwr_change (he : Effect s i t) (hne : t.outPwr ≠ s.outPwr) :
    i = .init ∨ i = .tick ∧ t.state = .poweredOff ∨ (∃ pins, i = .edge pins) ∧ t.state = .booting ∨
      i = .transBooting ∨ i = .transPoweredOff := by
  cases he with
  | init => exact .inl rfl
  | trans st =>
    cases st with
    | booting => simp [transOp]
    | poweredOff => simp [transOp]
    | unknown | idle | shuttingDown => exact absurd rfl hne
  | edgeBoot pins => exact .inr (.inr (.inl ⟨⟨pins, rfl⟩, rfl⟩))
  | tickTimeout _ _ hact =>
    cases hact with
    | booting => exact absurd rfl hne
    | shuttingDown => exact .inr (.inl ⟨rfl, rfl⟩)
  | tickSleep => exact absurd (tickSleep_lines s).left hne
  | adv | edgeReady | edgeShutdown | edgeRecord | tickNothing | tickCount | tickTimeoutSplit => exact absurd rfl hne

theorem outShdn_change (he : Effect s i t) (hne : t.outShdn ≠ s.outShdn) :
    i = .init ∨ i = .tick ∧ t.state = .poweredOff ∨
      (∃ pins, i = .edge pins) ∧ (t.state = .booting ∨ t.state = .shuttingDown) ∨
      i = .transBooting ∨ i = .transShuttingDown ∨ i = .transPoweredOff := by
  cases he with
  | init => exact .inl rfl
  | trans st =>
    cases st with
    | booting | shuttingDown | poweredOff => simp [transOp]
    | unknown | idle => exact absurd rfl hne
  | edgeBoot pins => exact .inr (.inr (.inl ⟨⟨pins, rfl⟩, .inl rfl⟩))
  | edgeShutdown pins => exact .inr (.inr (.inl ⟨⟨pins, rfl⟩, .inr rfl⟩))
  | tickTimeout _ _ hact =>
    cases hact with
    | booting => exact absurd rfl hne
    | shuttingDown => exact .inr (.inl ⟨rfl, rfl⟩)
  | tickSleep => exact absurd (tickSleep_lines s).right.left hne
  | adv | edgeReady | edgeRecord | tickNothing | tickCount | tickTimeoutSplit => exact absurd rfl hne

theorem outLed_change (he : Effect s i t) (hne : t.outLed ≠ s.outLed) :
    i = .init ∨ i = .tick ∨ (∃ pins, i = .edge pins) ∧ (t.state = .booting ∨ t.state = .shuttingDown) ∨
      i = .transBooting ∨ i = .transIdle ∨ i = .transShuttingDown ∨ i = .transPoweredOff := by
  cases he with
  | init => exact .inl rfl
  | trans st =>
    cases st with
    | booting | idle | shuttingDown | poweredOff => simp [transOp]
    | unknown => exact absurd rfl hne
  | edgeBoot pins => exact .inr (.inr (.inl ⟨⟨pins, rfl⟩, .inl rfl⟩))
  | edgeShutdown pins => exact .inr (.inr (.inl ⟨⟨pins, rfl⟩, .inr rfl⟩))
  | tickNothing | tickSleep | tickCount | tickTimeout | tickTimeoutSplit => exact .inr (.inl rfl)
  | adv | edgeReady | edgeRecord => exact absurd rfl hne

/-- The sleep of R113 and R114, whole or by its first half. -/
theorem asleep_change (he : Effect s i t) (hne : t.asleep ≠ s.asleep) :
    i = .init ∧ t.asleep = false ∨ i = .tick ∧ t.asleep = true ∧ (s.state = .idle ∨ s.state = .poweredOff) ∨
      (∃ pins, i = .edge pins) ∧ t.asleep = false := by
  cases he with
  | init => exact .inl ⟨rfl, rfl⟩
  | edgeReady pins | edgeShutdown pins | edgeBoot pins | edgeRecord pins => exact .inr (.inr ⟨⟨pins, rfl⟩, rfl⟩)
  | tickSleep _ hs =>
    refine .inr (.inl ⟨rfl, ?_, hs⟩)
    cases hr : s.cfg.sleepRace with
    | false => rw [tickSleep_of_whole hr]
    | true => exact absurd (by rw [tickSleep_of_split hr]) hne
  | trans | tickTimeout => simp [withClock] at hne
  | adv | tickNothing | tickCount | tickTimeoutSplit => exact absurd rfl hne

theorem inited_change (he : Effect s i t) (hne : t.inited ≠ s.inited) : i = .init := by
  cases he with
  | init => rfl
  | trans | edgeShutdown | edgeBoot | tickSleep | tickTimeout => simp at hne
  | adv | edgeReady | edgeRecord | tickNothing | tickCount | tickTimeoutSplit => exact absurd rfl hne

theorem sleepPending_change (he : Effect s i t) (hne : t.sleepPending ≠ s.sleepPending) :
    i = .init ∨ i = .tick ∧ s.cfg.sleepRace = true := by
  cases he with
  | init => exact .inl rfl
  | tickSleep =>
    cases hr : s.cfg.sleepRace with
    | false => exact absurd (by rw [tickSleep_of_whole hr]) hne
    | true => exact .inr ⟨rfl, rfl⟩
  | trans | edgeShutdown | edgeBoot | tickTimeout => simp [withClock] at hne
  | adv | edgeReady | edgeRecord | tickNothing | tickCount | tickTimeoutSplit => exact absurd rfl hne

theorem entryPending_change (he : Effect s i t) (hne : t.entryPending ≠ s.entryPending) :
    i = .init ∨ i = .tick ∧ s.cfg.entryRace = true := by
  cases he with
  | init => exact .inl rfl
  | tickTimeoutSplit _ _ _ _ _ _ hr => exact .inr ⟨rfl, hr⟩
  | tickSleep => exact absurd (tickSleep_entryPending s) hne
  | trans | edgeShutdown | edgeBoot | tickTimeout => simp [withClock] at hne
  | adv | edgeReady | edgeRecord | tickNothing | tickCount => exact absurd rfl hne

/-- The row of STATE in the table of writers, from `Effect.state_change`. -/
theorem state_writers (he : Effect s i t) (hne : t.state ≠ s.state) :
    i = .init ∨ i ∈ [.transUnknown, .transBooting, .transIdle, .transShuttingDown, .transPoweredOff] ∨
      (i = .tick ∧ (s.state = .booting ∧ t.state = .idle ∨ s.state = .shuttingDown ∧ t.state = .poweredOff)) ∨
      (∃ pins, i = .edge pins) ∧
        (s.state = .poweredOff ∧ t.state = .booting ∨ s.state = .idle ∧ t.state = .shuttingDown) := by
  obtain ⟨hi, -⟩ | ⟨st, rfl⟩ | ⟨pins, hi, -, hst⟩ | ⟨hi, hst⟩ := he.state_change hne
  · exact .inl hi
  · exact .inr (.inl (transOp_mem st))
  · exact .inr (.inr (.inr ⟨⟨pins, hi⟩, hst⟩))
  · refine .inr (.inr (.inl ⟨hi, ?_⟩))
    obtain ⟨hs, ht, -⟩ | ⟨hs, ht, -⟩ := hst
    · exact .inl ⟨hs, ht⟩
    · exact .inr ⟨hs, ht⟩

end Effect

/-- Settles O49: one lemma per element, each over the effects of the operations. -/
theorem writersOfEachElement : Obligations.WritersOfEachElement := by
  intro i s t h
  have he := exec_effect h
  exact ⟨he.state_writers, he.subsec_change, he.sec_change, he.snap_change, he.outPwr_change, he.outShdn_change,
    he.outLed_change, he.asleep_change, he.inited_change, he.sleepPending_change, he.entryPending_change⟩

end Sys2Proof.Machine
end

section
/-! PROOFS. R119, R120, R140 and R187: EDGE reads neither the agenda nor ENTRY_PENDING; runs of samples with no TICK between
them, and a split sleep around them. -/

namespace Sys2Proof.Machine

/-- The state with other turns to come. -/
def withAgenda (l : List Event) (s : State) : State := { s with agenda := l }

@[simp] theorem withAgenda_agenda (l : List Event) (s : State) : (withAgenda l s).agenda = l := rfl
@[simp] theorem withAgenda_inited (l : List Event) (s : State) : (withAgenda l s).inited = s.inited := rfl
@[simp] theorem withAgenda_sleepPending (l : List Event) (s : State) : (withAgenda l s).sleepPending = s.sleepPending := rfl
@[simp] theorem withAgenda_self (s : State) : withAgenda s.agenda s = s := rfl
@[simp] theorem withAgenda_withAgenda (l k : List Event) (s : State) : withAgenda l (withAgenda k s) = withAgenda l s := rfl

/-! ### What every EDGE leaves as it is -/

section
variable (pins : Byte) (s : State)

@[simp] theorem edgeDetect_inited : (edgeDetect pins s).inited = s.inited := by
  obtain ⟨-, -, heq⟩ | ⟨-, -, heq⟩ | ⟨-, -, heq⟩ | ⟨-, -, heq⟩ := edgeDetect_cases pins s <;> simp [heq]

@[simp] theorem edgeDetect_agenda : (edgeDetect pins s).agenda = s.agenda := by
  obtain ⟨-, -, heq⟩ | ⟨-, -, heq⟩ | ⟨-, -, heq⟩ | ⟨-, -, heq⟩ := edgeDetect_cases pins s <;> simp [heq]

@[simp] theorem edgeDetect_sleepPending : (edgeDetect pins s).sleepPending = s.sleepPending := by
  obtain ⟨-, -, heq⟩ | ⟨-, -, heq⟩ | ⟨-, -, heq⟩ | ⟨-, -, heq⟩ := edgeDetect_cases pins s <;> simp [heq]

@[simp] theorem edgeDetect_entryPending : (edgeDetect pins s).entryPending = s.entryPending := by
  obtain ⟨-, -, heq⟩ | ⟨-, -, heq⟩ | ⟨-, -, heq⟩ | ⟨-, -, heq⟩ := edgeDetect_cases pins s <;> simp [heq]

/-- EDGE neither reads nor writes ENTRY_PENDING (R120) and the agenda. -/
theorem edgeDetect_update (e : Option EntryPos) (l : List Event) :
    edgeDetect pins { s with entryPending := e, agenda := l } = { edgeDetect pins s with entryPending := e, agenda := l } := by
  let u : State := { s with entryPending := e, agenda := l }
  obtain ⟨hs, hr, heq⟩ | ⟨hs, hb, heq⟩ | ⟨hs, hb, heq⟩ | ⟨hr, hb, heq⟩ := edgeDetect_cases pins s <;> rw [heq]
  · exact edgeDetect_of_ready_in_booting (s := u) hs hr
  · exact edgeDetect_of_button_in_idle (s := u) hs hb
  · exact edgeDetect_of_button_in_poweredOff (s := u) hs hb
  · exact edgeDetect_of_no_rule (s := u) hr hb

theorem edgeDetect_withAgenda (l : List Event) :
    edgeDetect pins (withAgenda l s) = withAgenda l (edgeDetect pins s) := by
  have hsame : withAgenda l (edgeDetect pins s) =
      { edgeDetect pins s with entryPending := s.entryPending, agenda := l } := by
    rw [← edgeDetect_entryPending pins s]
    rfl
  exact (edgeDetect_update pins s s.entryPending l).trans hsame.symm

theorem edgeDetect_withEntryPending (e : Option EntryPos) :
    edgeDetect pins { s with entryPending := e } = { edgeDetect pins s with entryPending := e } := by
  have hsame : { edgeDetect pins s with entryPending := e } =
      { edgeDetect pins s with entryPending := e, agenda := s.agenda } := by
    rw [← edgeDetect_agenda pins s]
  exact (edgeDetect_update pins s e s.agenda).trans hsame.symm

/-- A timed state is not left by an EDGE (R134, R137). -/
theorem edgeDetect_state_of_timed {s : State} (h : timed s.state = true) : (edgeDetect pins s).state = s.state := by
  obtain ⟨-, -, heq⟩ | ⟨hs, -⟩ | ⟨hs, -⟩ | ⟨-, -, heq⟩ := edgeDetect_cases pins s
  · rw [heq]
  · simp [hs, timed] at h
  · simp [hs, timed] at h
  · rw [heq]

/-- An EDGE that changes STATE enters a timed state (R135, R136). -/
theorem edgeDetect_state_same_or_timed :
    (edgeDetect pins s).state = s.state ∨ timed (edgeDetect pins s).state = true := by
  obtain ⟨-, -, heq⟩ | ⟨-, -, heq⟩ | ⟨-, -, heq⟩ | ⟨-, -, heq⟩ := edgeDetect_cases pins s <;> rw [heq]
  · exact .inl rfl
  · exact .inr rfl
  · exact .inr rfl
  · exact .inl rfl

end

/-! ### A list of samples -/

/-- The state after a list of samples, taken one after the other. -/
def sampled (ps : List Byte) (s : State) : State := ps.foldl (fun u pins => edgeDetect pins u) s

/-- What every sample of a list keeps holds after them all. -/
theorem sampled_induction {P : State → Prop} {ps : List Byte} (hkeeps : ∀ pins ∈ ps, ∀ u, P u → P (edgeDetect pins u))
    {s : State} (h : P s) : P (sampled ps s) := by
  induction ps generalizing s with
  | nil => exact h
  | cons pins ps ih =>
    exact ih (fun q hq => hkeeps q (List.mem_cons_of_mem _ hq)) (hkeeps pins List.mem_cons_self s h)

section
variable (ps : List Byte) (s : State)

@[simp] theorem sampled_inited : (sampled ps s).inited = s.inited :=
  sampled_induction (P := fun u => u.inited = s.inited) (by simp) rfl

@[simp] theorem sampled_agenda : (sampled ps s).agenda = s.agenda :=
  sampled_induction (P := fun u => u.agenda = s.agenda) (by simp) rfl

@[simp] theorem sampled_sleepPending : (sampled ps s).sleepPending = s.sleepPending :=
  sampled_induction (P := fun u => u.sleepPending = s.sleepPending) (by simp) rfl

theorem sampled_state_of_timed {s : State} (h : timed s.state = true) : (sampled ps s).state = s.state :=
  sampled_induction (P := fun u => u.state = s.state)
    (fun pins _ _ hu => (edgeDetect_state_of_timed pins (hu ▸ h)).trans hu) rfl

theorem sampled_state_same_or_timed : (sampled ps s).state = s.state ∨ timed (sampled ps s).state = true := by
  refine sampled_induction (P := fun u => u.state = s.state ∨ timed u.state = true) (fun pins _ u hu => ?_) (.inl rfl)
  obtain hsame | htimed := hu
  · exact (edgeDetect_state_same_or_timed pins u).imp_left fun h => h.trans hsame
  · exact .inr (by rwa [edgeDetect_state_of_timed pins htimed])

end

/-! ### Runs of samples -/

theorem step_edge {s : State} {pins : Byte} {rest : List Event} (hi : s.inited = true)
    (ha : s.agenda = edgeEvent pins :: rest) : step s = .next (edgeDetect pins (withAgenda rest s)) :=
  (step_presented ha (decode_encode_edge pins)).trans (exec_edge_inited hi)

theorem runSteps_edges {ps : List Byte} {rest : List Event} {s : State} (hi : s.inited = true)
    (ha : s.agenda = ps.map edgeEvent ++ rest) : runSteps ps.length s = .next (sampled ps (withAgenda rest s)) := by
  induction ps generalizing s with
  | nil =>
    rw [← show s.agenda = rest from ha, withAgenda_self]
    rfl
  | cons pins ps ih =>
    rw [List.length_cons, runSteps_succ_next (step_edge hi ha), ih (by simpa using hi) (by simp), ← edgeDetect_withAgenda,
      withAgenda_withAgenda]
    rfl

/-- The run after the first samples of the list. -/
theorem runSteps_first_edges {ps : List Byte} {rest : List Event} {s : State} (hi : s.inited = true)
    (ha : s.agenda = ps.map edgeEvent ++ rest) {k : Nat} (hk : k ≤ ps.length) :
    runSteps k s = .next (sampled (ps.take k) (withAgenda ((ps.drop k).map edgeEvent ++ rest) s)) := by
  have hsplit : s.agenda = (ps.take k).map edgeEvent ++ ((ps.drop k).map edgeEvent ++ rest) := by
    rw [ha, ← List.append_assoc, ← List.map_append, List.take_append_drop]
  have hrun := runSteps_edges hi hsplit
  rwa [List.length_take_of_le hk] at hrun

theorem timed_iff (st : SupervisorState) : timed st = true ↔ st = .booting ∨ st = .shuttingDown := by
  cases st <;> simp [timed]

/-- Settles O39: the first change of STATE is to a timed state, which the samples after it do not leave. -/
theorem bounceChangesStateAtMostOnce : Obligations.BounceChangesStateAtMostOnce := by
  intro s ps rest j k hi ha hjk hk
  have hfirst := runSteps_first_edges hi ha (hjk.trans hk)
  set a := sampled (ps.take j) (withAgenda ((ps.drop j).map edgeEvent ++ rest) s) with ha_def
  have hlater := runSteps_first_edges (s := a) (ps := ps.drop j) (rest := rest) (k := k - j) (by simpa [ha_def] using hi)
    (by simp [ha_def]) (by rw [List.length_drop]; omega)
  rw [← runSteps_add j (k - j) s a hfirst, Nat.add_sub_cancel' hjk] at hlater
  refine ⟨a, _, hfirst, hlater, fun hne => ?_⟩
  have htimed : timed a.state = true := (sampled_state_same_or_timed _ _).resolve_left hne
  exact ⟨(timed_iff _).mp htimed, sampled_state_of_timed _ htimed⟩

/-! ### The button held at INIT -/

theorem edgeDetect_boots {pins : Byte} {s : State} (hs : s.state = .poweredOff) (hb : buttonRises pins s.snap = true) :
    (edgeDetect pins s).state = .booting := by
  rw [edgeDetect_of_button_in_poweredOff hs hb, transition_state]

/-- A button at 1 in SNAP and in every sample never rises. -/
theorem sampled_of_button_held {ps : List Byte} (hps : ∀ q ∈ ps, q.getLsbD 0 = true) {s : State}
    (hs : s.state = .poweredOff) (hsnap : s.snap.getLsbD 0 = true) : (sampled ps s).state = .poweredOff := by
  have hboth : (sampled ps s).state = .poweredOff ∧ (sampled ps s).snap.getLsbD 0 = true := by
    refine sampled_induction (P := fun u => u.state = .poweredOff ∧ u.snap.getLsbD 0 = true) ?_ ⟨hs, hsnap⟩
    rintro q hq u ⟨hu, husnap⟩
    rw [edgeDetect_of_no_rule (by simp [hu]) (by simp [buttonRises_iff, husnap])]
    exact ⟨hu, hps q hq⟩
  exact hboth.left

/-- Settles O15: after INIT SNAP is SNAPSHOT_RESET, whose button bit decides whether the first sample is a rising edge. -/
theorem buttonHeldAtInit : Obligations.ButtonHeldAtInit := by
  intro s p ps rest ha hheld
  have hinit := (step_presented ha initGivesTheResetTable.left).trans (exec_init _)
  refine ⟨fun hreset => ?_, fun hreset => ?_⟩
  · refine ⟨_, (runSteps_succ_next hinit).trans (runSteps_succ_next (step_edge rfl rfl)), ?_⟩
    exact edgeDetect_boots rfl (buttonRises_iff.mpr ⟨hheld p List.mem_cons_self, hreset⟩)
  · refine ⟨_, (runSteps_succ_next hinit).trans (runSteps_edges (ps := p :: ps) (rest := rest) rfl rfl), ?_⟩
    exact sampled_of_button_held hheld rfl hreset

/-! ### A split sleep around samples -/

theorem decode_tick : decode 0x2000#16 = .instr .tick := decode_encode (i := .tick) rfl

theorem step_sleepEnter {s : State} {rest : List Event} (ha : s.agenda = .mainLine :: rest) (hp : s.sleepPending = true) :
    step s = .next (sleepEnter (withAgenda rest s)) := by
  rw [step_cons ha]
  simp [perform, mainLineTurn, hp, withAgenda]

/-- Settles O40: SLEEP_PENDING survives the samples (`sampled_sleepPending`), so the main line's turn after them is
SLEEP_ENTER, and the TICK after it holds. -/
theorem splitSleepSleepsAfterTheEdges : Obligations.SplitSleepSleepsAfterTheEdges := by
  intro s ps rest hi ha hr hs hagenda
  set after := ps.map edgeEvent ++ .mainLine :: .op 0x2000#16 :: rest with hafter
  have htick : exec .tick (withAgenda after s) = .next { s with sleepPending := true, agenda := after } := by
    rw [exec_tick_of_sleeping_state (s := withAgenda after s) hi ha hs, tickSleep_of_split (s := withAgenda after s) hr]
    rfl
  have hfirst := (step_presented hagenda decode_tick).trans htick
  refine ⟨hfirst, fun u pins hu hp => ⟨_, exec_edge_inited hu, by simpa using hp, by simp⟩, ?_⟩
  have hedges := runSteps_edges (s := { s with sleepPending := true, agenda := after }) hi hafter
  set v := sampled ps (withAgenda (.mainLine :: .op 0x2000#16 :: rest) { s with sleepPending := true, agenda := after })
    with hv
  have hsleep : step v = .next (sleepEnter (withAgenda (.op 0x2000#16 :: rest) v)) :=
    step_sleepEnter (by simp [hv]) (by simp [hv])
  refine ⟨sleepEnter (withAgenda (.op 0x2000#16 :: rest) v), ?_, rfl, rfl, rfl, ?_⟩
  · rw [runSteps_succ_next hfirst, runSteps_add ps.length 1 _ v hedges, runSteps_succ_next hsleep, runSteps_zero]
  · rw [step_presented rfl decode_tick]
    exact exec_tick_of_held (by simpa [hv] using hi) rfl

end Sys2Proof.Machine
end

section
/-! PROOFS. R113 to R116, R118 to R120, R184: the turns of the main line, and the states in which it goes on for ever. -/

namespace Sys2Proof.Machine

/-! ### A step runs the turn that comes next -/

/-- Settles O8: the decoder gives the operation (`step_presented`). -/
theorem stepRunsThePresentedOperation : Obligations.StepRunsThePresentedOperation := fun _ _ _ _ => step_presented

section
variable {s u : State}

theorem step_mainLine (h : s.agenda = [] ∧ u = s ∨ ∃ rest, s.agenda = .mainLine :: rest ∧ u = withAgenda rest s) :
    step s = mainLineTurn u := by
  obtain ⟨ha, rfl⟩ | ⟨rest, ha, rfl⟩ := h
  · exact step_nil ha
  · exact step_cons ha

theorem mainLineTurn_of_sleepPending (hp : u.sleepPending = true) : mainLineTurn u = .next (sleepEnter u) := by
  simp [mainLineTurn, hp]

theorem mainLineTurn_of_entryPending {p : EntryPos} (hsleep : u.sleepPending = false) (hp : u.entryPending = some p) :
    mainLineTurn u = .next (entryStep p u) := by
  simp [mainLineTurn, hsleep, hp]

theorem mainLineTurn_of_none_pending (hsleep : u.sleepPending = false) (hentry : u.entryPending = none) :
    mainLineTurn u = exec .tick u := by
  simp [mainLineTurn, hsleep, hentry]

end

/-- Settles O9: the three cases of `mainLineTurn`. -/
theorem mainLineTakesItsOneStep : Obligations.MainLineTakesItsOneStep := by
  intro s u h
  rw [step_mainLine h]
  exact ⟨mainLineTurn_of_sleepPending, fun _ => mainLineTurn_of_entryPending, mainLineTurn_of_none_pending⟩

/-- Settles O41: the writes of the four positions (`entryStep_idle` and the three of `PoweredOff`), and EDGE leaves
ENTRY_PENDING to the main line (`edgeDetect_withEntryPending`). -/
theorem entryStepPerformsOneWrite : Obligations.EntryStepPerformsOneWrite := by
  refine ⟨fun s u h hsleep => ?_, fun s t pins e hedge => ?_⟩
  · have hsame : u.sleepPending = s.sleepPending ∧ u.entryPending = s.entryPending := by
      obtain ⟨-, rfl⟩ | ⟨rest, -, rfl⟩ := h <;> exact ⟨rfl, rfl⟩
    have hstep (p : EntryPos) (hp : s.entryPending = some p) : step s = .next (entryStep p u) := by
      rw [step_mainLine h, mainLineTurn_of_entryPending (hsame.left.trans hsleep) (hsame.right.trans hp)]
    exact ⟨hstep .idle, hstep (.poweredOff 0), hstep (.poweredOff 1), hstep (.poweredOff 2)⟩
  · obtain ⟨hi, rfl⟩ := execEdge_next hedge
    rw [exec_edge_inited (s := { s with entryPending := e }) hi, edgeDetect_withEntryPending]

/-! ### A TICK that holds, and a main line that stays where it is -/

/-- Settles O28: what is not awake is held (R116). -/
theorem tickHoldsWhileTheMainLineWaits : Obligations.TickHoldsWhileTheMainLineWaits := by
  intro s hi hwaits
  have hh : held s = true := by
    rw [← Bool.not_eq_false]
    exact fun h => hwaits (awake_of_not_held h)
  exact exec_tick_of_held hi hh

theorem runSteps_of_fixed {s : State} (h : step s = .next s) (k : Nat) : runSteps k s = .next s := by
  induction k with
  | zero => exact runSteps_zero s
  | succ k ih => rw [runSteps_succ_next h, ih]

/-- Settles O27: the TICK of `Unknown` answers the state it found (`exec_tick_of_unknown`), and with nothing presented every
step is that TICK. -/
theorem tickInUnknownBlinksForEver : Obligations.TickInUnknownBlinksForEver := by
  intro s ha hs
  have htick (hi : s.inited = true) := exec_tick_of_unknown hs hi ha
  obtain ⟨-, hsleep, hentry⟩ := ha
  refine ⟨rfl, exec_tick_of_not_inited, fun hi => ⟨htick hi, fun pins => ?_, fun hnil => runSteps_of_fixed ?_⟩⟩
  · rw [exec_edge_inited hi, edgeDetect_of_unknown hs]
  · rw [step_nil hnil, mainLineTurn_of_none_pending hsleep hentry, htick hi]

/-- Settles O31: a quiescent main line has only the TICK that holds, and EDGE clears what it waits for. -/
theorem quiescentUntilSomethingIsPresented : Obligations.QuiescentUntilSomethingIsPresented := by
  intro s hi hq hnil
  simp only [quiescent, Bool.and_eq_true, Bool.not_eq_true', Option.isNone_iff_eq_none] at hq
  obtain ⟨⟨hasleep, hsleep⟩, hentry⟩ := hq
  refine ⟨runSteps_of_fixed ?_, fun pins => ⟨_, exec_edge_inited hi, edgeDetect_asleep pins s, ?_, ?_⟩⟩
  · rw [step_nil hnil, mainLineTurn_of_none_pending hsleep hentry, exec_tick_of_held hi (by simp [held, hasleep])]
  · rw [edgeDetect_sleepPending, hsleep]
  · rw [edgeDetect_entryPending, hentry]

/-- Settles O14: INIT ends awake in `PoweredOff` (`exec_init_ready`), whose TICK sleeps (`tickEntersSleep`). -/
theorem firstTickAfterInitSleeps : Obligations.FirstTickAfterInitSleeps := by
  intro s t h
  obtain ⟨hi, ha, ht⟩ := exec_init_ready h
  obtain ⟨-, hwhole, hsplit⟩ := tickEntersSleep.left t ha (.inr ht)
  exact ⟨fun hr => (hwhole hi hr).left, fun hr => (hsplit hi hr).left⟩

/-! ### ADV without a legal word -/

/-- Settles O20: the check of the duration comes before the guard on INITED (R159). -/
theorem tooLongAdvIsRefused : Obligations.TooLongAdvIsRefused := by
  intro dur s h
  have hlong : ¬ durationLegal dur = true := by
    rw [durationLegal, durationMs, decide_eq_true_iff]
    omega
  exact if_neg hlong

end Sys2Proof.Machine
end

section
/-! PROOFS. 10_state.md R34 and 70_reset_and_hazards.md R196: the fields of the observation words, and the nominal durations. -/

namespace Sys2Proof.Machine

/-! ### Bits of a word that is put together from fields -/

theorem getLsbD_append_bit_zero {n : Nat} (x : BitVec n) (b : Bool) : (x ++ bit b).getLsbD 0 = b := by
  rw [BitVec.getLsbD_append, if_pos Nat.one_pos, bit, BitVec.getLsbD_ofBool]
  simp

theorem getLsbD_append_bit_succ {n : Nat} (x : BitVec n) (b : Bool) (k : Nat) :
    (x ++ bit b).getLsbD (k + 1) = x.getLsbD k := by
  rw [BitVec.getLsbD_append, if_neg (by omega), Nat.add_sub_cancel]

theorem getLsbD_append_code {n : Nat} (x : BitVec n) (st : SupervisorState) (k : Nat) :
    (x ++ st.code).getLsbD (k + 3) = x.getLsbD k := by
  rw [BitVec.getLsbD_append, if_neg (by omega), Nat.add_sub_cancel]

theorem statusWord_bits (s : State) :
    (statusWord s).getLsbD 3 = s.outPwr ∧ (statusWord s).getLsbD 4 = s.outShdn ∧ (statusWord s).getLsbD 5 = s.outLed ∧
      (statusWord s).getLsbD 6 = s.asleep ∧ (statusWord s).getLsbD 7 = s.inited ∧
      (statusWord s).getLsbD 8 = s.sleepPending ∧ (statusWord s).getLsbD 9 = s.entryPending.isSome := by
  simp only [statusWord, getLsbD_append_code, getLsbD_append_bit_succ, getLsbD_append_bit_zero, and_self]

theorem statusWord_reserved (s : State) : (statusWord s).extractLsb' 10 6 = 0#6 := by
  simp only [statusWord]
  repeat rw [BitVec.extractLsb'_append_eq_of_le (by decide)]
  rfl

/-- SEC fits the bits the layout has for it. -/
theorem clockWord_of_fits {s : State} (hw : s.cfg.secW ≤ 22) (hsec : s.sec < 2 ^ s.cfg.secW) :
    clockWord s = some (BitVec.ofNat 22 s.sec ++ s.subsec) := by
  rw [clockWord, if_pos hw, Nat.mod_eq_of_lt hsec]

theorem clock_sec_field {c w : Nat} (hw : w ≤ 22) (hc : c < 2 ^ w) (m : BitVec 10) :
    ((BitVec.ofNat 22 c ++ m).extractLsb' 10 w).toNat = c := by
  have hroom : c < 2 ^ 22 := hc.trans_le (Nat.pow_le_pow_right (by decide) hw)
  rw [BitVec.extractLsb'_append_eq_of_le le_rfl, BitVec.extractLsb'_toNat, BitVec.toNat_ofNat, Nat.mod_eq_of_lt hroom,
    Nat.sub_self, Nat.shiftRight_zero, Nat.mod_eq_of_lt hc]

theorem clock_above_sec {c w k : Nat} (hc : c < 2 ^ w) (hk : 10 + w ≤ k) (m : BitVec 10) :
    (BitVec.ofNat 22 c ++ m).getLsbD k = false := by
  have hbit : c.testBit (k - 10) = false :=
    Nat.testBit_lt_two_pow (hc.trans_le (Nat.pow_le_pow_right (by decide) (by omega)))
  rw [BitVec.getLsbD_append, if_neg (by omega), BitVec.getLsbD_ofNat, hbit, Bool.and_false]
/-- Settles O51: STATUS bit by bit (`statusWord_bits`), and CLOCK for a SEC within its width. -/
theorem observationWordsLayout : Obligations.ObservationWordsLayout := by
  intro s
  obtain ⟨hpwr, hshdn, hled, hasleep, hinited, hsleep, hentry⟩ := statusWord_bits s
  refine ⟨BitVec.extractLsb'_append_eq_right, hpwr, hshdn, hled, hasleep, hinited, hsleep, hentry, statusWord_reserved s,
    fun hw hc => ?_, rfl⟩
  exact ⟨_, clockWord_of_fits hw hc, BitVec.extractLsb'_append_eq_right, clock_sec_field hw hc s.subsec,
    fun _ hk => clock_above_sec hc hk s.subsec⟩

/-- Settles O52: `nominalDuration` by the state, and the counts of R117 at the default constants. -/
theorem nominalDurations : Obligations.NominalDurations := by
  refine ⟨fun s => ⟨fun hs => ?_, fun hs => ?_, fun hs => ?_, fun hs => ?_, fun _ => rfl⟩, by decide, by decide⟩
  · simp only [nominalDuration, hs]
  · simp only [nominalDuration, hs]
  · simp only [nominalDuration, hs]
  · obtain hs | hs := hs <;> simp only [nominalDuration, hs]

end Sys2Proof.Machine
end

section
/-! PROOFS. R102, R112, R117 and R120: a clock that counts exactly, by ADV or tick by tick, up to the timeout; what happens
then, with any samples between the ticks and with the transition split. -/

namespace Sys2Proof.Machine

/-! ### The clock as one number of milliseconds -/

/-- The clock stands at `n` milliseconds (R102). -/
def clockAt (n : Nat) (s : State) : Prop := s.sec = n / 1000 ∧ s.subsec = BitVec.ofNat 10 (n % 1000)

theorem clockAt_zero {s : State} (hc : s.sec = 0) (hm : s.subsec = 0#10) : clockAt 0 s := ⟨hc, hm⟩

theorem clockAt.subsec_toNat {n : Nat} {s : State} (h : clockAt n s) : s.subsec.toNat = n % 1000 := by
  rw [h.right, BitVec.toNat_ofNat]
  omega

theorem clockAt.subsec_le {n : Nat} {s : State} (h : clockAt n s) : s.subsec.toNat ≤ 999 := by
  rw [h.subsec_toNat]
  omega

/-- An exact addition of milliseconds. -/
theorem clockAt.addClock {n : Nat} {s : State} (h : clockAt n s) (d : Nat) : clockAt (n + d) (addClock d s) := by
  have hm := h.subsec_toNat
  obtain ⟨hc, -⟩ := h
  refine ⟨?_, ?_⟩
  · rw [addClock_sec, hc, hm]
    omega
  · rw [addClock_subsec, hm]
    congr 1
    omega

/-- The state is given by its clock and its other elements. -/
theorem clockAt.eq_withClock {n : Nat} {s : State} (h : clockAt n s) :
    s = withClock (n / 1000) (BitVec.ofNat 10 (n % 1000)) s := by
  obtain ⟨hc, hm⟩ := h
  rw [← hc, ← hm]
  rfl

/-! ### A run of ADV -/

theorem step_adv {s : State} {dur : BitVec 10} {rest : List Event} {n : Nat} (hd : dur.toNat ≤ 999)
    (hi : s.inited = true) (ht : timed s.state = true) (hn : clockAt n s) (hfits : (n + dur.toNat) / 1000 < 2 ^ s.cfg.secW)
    (ha : s.agenda = .op (encode (.adv dur)) :: rest) :
    step s = .next (addClock dur.toNat (withAgenda rest s)) := by
  have hroom := (hn.addClock dur.toNat).left ▸ hfits
  have hadv : advance dur.toNat (withAgenda rest s) = some (addClock dur.toNat (withAgenda rest s)) :=
    advance_timed ht hn.subsec_le hd hroom
  exact (step_presented ha (decode_encode_adv hd)).trans (exec_adv_of_advance_some hd hi hadv)

/-- ADV adds its durations up, from any clock. -/
theorem runSteps_advs {ds : List (BitVec 10)} {rest : List Event} {n : Nat} {s : State} (hds : ∀ d ∈ ds, d.toNat ≤ 999)
    (hi : s.inited = true) (ht : timed s.state = true) (hn : clockAt n s)
    (hfits : (n + (ds.map BitVec.toNat).sum) / 1000 < 2 ^ s.cfg.secW)
    (ha : s.agenda = (ds.map fun d => Event.op (encode (.adv d))) ++ rest) :
    runSteps ds.length s =
      .next (withClock ((n + (ds.map BitVec.toNat).sum) / 1000)
        (BitVec.ofNat 10 ((n + (ds.map BitVec.toNat).sum) % 1000)) (withAgenda rest s)) := by
  induction ds generalizing s n with
  | nil =>
    rw [← show s.agenda = rest from ha, withAgenda_self]
    exact congrArg Host.Outcome.next hn.eq_withClock
  | cons d ds ih =>
    obtain ⟨hd, hds⟩ := List.forall_mem_cons.mp hds
    rw [List.map_cons, List.sum_cons, ← Nat.add_assoc] at hfits ⊢
    have hfirst := step_adv hd hi ht hn
      ((Nat.div_le_div_right (Nat.le_add_right _ _)).trans_lt hfits) ha
    rw [List.length_cons, runSteps_succ_next hfirst]
    exact ih hds hi ht (hn.addClock d.toNat) hfits rfl

/-- Settles O23: the run from a clear clock. -/
theorem accumulationLaw : Obligations.AccumulationLaw := by
  intro s ds rest hds hi ht hc hm hfits ha
  have hrun := runSteps_advs (n := 0) hds hi ht (clockAt_zero hc hm) (by rwa [Nat.zero_add]) ha
  rwa [Nat.zero_add] at hrun

/-! ### Ticks up to the timeout -/

/-- A number of ticks is below the count of R117 where the clock it leaves is below the limit; the first tick comes in any
case. -/
theorem lt_ticksTo_iff {limit p k : Nat} (hp : 1 ≤ p) (hk : 1 ≤ k) : k < ticksTo limit p ↔ k * p / 1000 < limit := by
  have hceil : k < (1000 * limit + p - 1) / p ↔ k * p < 1000 * limit := by
    rw [← Nat.succ_le_iff, Nat.le_div_iff_mul_le hp, Nat.succ_mul]
    omega
  rw [ticksTo, lt_max_iff, hceil, Nat.div_lt_iff_lt_mul (by decide)]
  omega

namespace TimedAction

variable {s : State} {p limit : Nat} {nxt : EntryPos}

theorem congr {t : State} (h : TimedAction s p limit nxt) (hst : t.state = s.state) (hcfg : t.cfg = s.cfg) :
    TimedAction t p limit nxt := by
  cases h with
  | booting hs =>
    rw [← hcfg]
    exact .booting (hst.trans hs)
  | shuttingDown hs =>
    rw [← hcfg]
    exact .shuttingDown (hst.trans hs)

theorem one_le_period (h : TimedAction s p limit nxt) (hl : s.cfg.Legal) : 1 ≤ p := by
  obtain ⟨-, -, -, ⟨hboot, -⟩, ⟨hshutdown, -⟩, -⟩ := hl
  cases h with
  | booting => exact hboot
  | shuttingDown => exact hshutdown

theorem limit_lt (h : TimedAction s p limit nxt) (hl : s.cfg.Legal) : limit < 2 ^ s.cfg.secW := by
  obtain ⟨-, hboot, hshutdown, -⟩ := hl
  cases h with
  | booting => omega
  | shuttingDown => omega

theorem ticksTimed (h : TimedAction s p limit nxt) (hinv : Inv s) (ha : awake s) : TicksTimed p limit nxt s := by
  cases h with
  | booting hs => exact ticksTimed_booting hinv ha hs
  | shuttingDown hs => exact ticksTimed_shuttingDown hinv ha hs

end TimedAction

/-- The device ticks in a timed state and has ticked `k` times since its entry there. -/
structure Ticking (p limit : Nat) (nxt : EntryPos) (k : Nat) (s : State) : Prop where
  action : TimedAction s p limit nxt
  legal : s.cfg.Legal
  inited : s.inited = true
  isAwake : awake s
  clock : clockAt (k * p) s

namespace Ticking

variable {s : State} {p limit k : Nat} {nxt : EntryPos} (h : Ticking p limit nxt k s)
include h

/-- One tick more. -/
theorem next : Ticking p limit nxt (k + 1) (toggleAndCount p s) := by
  refine ⟨h.action.congr rfl rfl, h.legal, h.inited, h.isAwake, ?_⟩
  rw [Nat.succ_mul]
  exact h.clock.addClock p

/-- The comparison of the next TICK is the count of R117. -/
theorem lt_ticksTo_iff_sec_lt : k + 1 < ticksTo limit p ↔ (toggleAndCount p s).sec < limit := by
  rw [h.next.clock.left]
  exact lt_ticksTo_iff (h.action.one_le_period h.legal) (Nat.le_add_left 1 k)

section
variable (hk : k < ticksTo limit p)
include hk

/-- Up to the timeout SEC is at most the limit, or its first tick has not come: R7 leaves it room (R103). -/
theorem sec_room : (toggleAndCount p s).sec < 2 ^ s.cfg.secW := by
  have hp := h.action.period_le h.legal
  have hl := h.action.limit_lt h.legal
  rw [h.next.clock.left, Nat.succ_mul]
  obtain rfl | hpos := Nat.eq_zero_or_pos k
  · rw [Nat.zero_mul]
    omega
  · have hbelow := (lt_ticksTo_iff (h.action.one_le_period h.legal) hpos).mp hk
    omega

theorem ticksTimed : TicksTimed p limit nxt s := by
  have hsec : s.sec < 2 ^ s.cfg.secW := (Nat.le_add_right _ _).trans_lt (h.sec_room hk)
  exact h.action.ticksTimed (.of_awake h.legal h.clock.subsec_le hsec h.isAwake) h.isAwake

end

theorem exec_tick_below (hk : k + 1 < ticksTo limit p) : exec .tick s = .next (toggleAndCount p s) :=
  (h.ticksTimed (Nat.lt_of_succ_lt hk)).exec_of_below h.inited (h.sec_room (Nat.lt_of_succ_lt hk))
    (h.lt_ticksTo_iff_sec_lt.mp hk)

theorem exec_tick_last (hk : k + 1 = ticksTo limit p) :
    exec .tick s = .next (timeoutTransition nxt (toggleAndCount p s)) := by
  have hlimit : limit ≤ (toggleAndCount p s).sec := not_lt.mp fun hlt => (h.lt_ticksTo_iff_sec_lt.mpr hlt).ne hk
  have hlt : k < ticksTo limit p := by omega
  rw [(h.ticksTimed hlt).exec_of_room h.inited (h.sec_room hlt), if_pos hlimit]

/-- With nothing presented the awake main line ticks (assumption log 5). -/
theorem step_of_nil (hnil : s.agenda = []) : step s = exec .tick s := by
  obtain ⟨-, hsleep, hentry⟩ := h.isAwake
  rw [step_nil hnil, mainLineTurn_of_none_pending hsleep hentry]

end Ticking

/-! ### With nothing presented -/

/-- The state after `k` ticks of a period in one timed state (R117). -/
def ticked (p k : Nat) (s : State) : State :=
  { s with sec := k * p / 1000, subsec := BitVec.ofNat 10 (k * p % 1000), outLed := s.outLed ^^ decide (k % 2 = 1) }

theorem ticked_zero {s : State} (h : clockAt 0 s) (p : Nat) : ticked p 0 s = s := by
  obtain ⟨hc, hm⟩ := h
  simp only [ticked, Nat.zero_mul, ← hc, ← hm]
  simp

theorem clockAt_ticked (p k : Nat) (s : State) : clockAt (k * p) (ticked p k s) := ⟨rfl, rfl⟩

theorem toggleAndCount_ticked (p k : Nat) (s : State) : toggleAndCount p (ticked p k s) = ticked p (k + 1) s := by
  obtain ⟨hc, hm⟩ := (clockAt_ticked p k s).addClock p
  have hled : (!(s.outLed ^^ decide (k % 2 = 1))) = (s.outLed ^^ decide ((k + 1) % 2 = 1)) := by
    obtain hk | hk := Nat.mod_two_eq_zero_or_one k <;> simp [Nat.add_mod, hk]
  conv_rhs => rw [ticked, ← hled, Nat.succ_mul, ← hc, ← hm]
  rfl

/-- An entry to a timed state, from which the ticks are counted. -/
theorem ticking_of_entry {s : State} {p limit : Nat} {nxt : EntryPos} (hact : TimedAction s p limit nxt) (hinv : Inv s)
    (hi : s.inited = true) (ha : awake s) (hc : s.sec = 0) (hm : s.subsec = 0#10) : Ticking p limit nxt 0 s := by
  refine ⟨hact, hinv.legal, hi, ha, ?_⟩
  rw [Nat.zero_mul]
  exact clockAt_zero hc hm

section
variable {s : State} {p limit : Nat} {nxt : EntryPos} (h : Ticking p limit nxt 0 s)
include h

theorem ticking_ticked (k : Nat) : Ticking p limit nxt k (ticked p k s) :=
  ⟨h.action.congr rfl rfl, h.legal, h.inited, h.isAwake, clockAt_ticked p k s⟩

variable (hnil : s.agenda = [])
include hnil

theorem runSteps_ticks {k : Nat} (hk : k < ticksTo limit p) : runSteps k s = .next (ticked p k s) := by
  induction k with
  | zero =>
    have hclock : clockAt 0 s := by simpa using h.clock
    rw [runSteps_zero, ticked_zero hclock]
  | succ k ih =>
    have hstep : step (ticked p k s) = .next (ticked p (k + 1) s) := by
      rw [(ticking_ticked h k).step_of_nil hnil, (ticking_ticked h k).exec_tick_below hk, toggleAndCount_ticked]
    rw [runSteps_add k 1 s _ (ih (Nat.lt_of_succ_lt hk)), runSteps_succ_next hstep, runSteps_zero]

/-- The tick of number `ticksTo limit p` transitions, whole where ENTRY_RACE is false. -/
theorem runSteps_timeout (hr : s.cfg.entryRace = false) :
    runSteps (ticksTo limit p) s = .next (transition nxt.target (ticked p (ticksTo limit p) s)) := by
  obtain ⟨k, hk⟩ : ∃ k, ticksTo limit p = k + 1 :=
    Nat.exists_eq_add_one.mpr (Nat.one_pos.trans_le (le_max_left _ _))
  have hstep : step (ticked p k s) = .next (transition nxt.target (ticked p (k + 1) s)) := by
    rw [(ticking_ticked h k).step_of_nil hnil, (ticking_ticked h k).exec_tick_last hk.symm, toggleAndCount_ticked,
      timeoutTransition_of_whole (s := ticked p (k + 1) s) hr]
  rw [hk, runSteps_add k 1 s _ (runSteps_ticks h hnil (by omega)), runSteps_succ_next hstep, runSteps_zero]

end

/-- Settles O29: both timed states tick alike (`TimedAction`), and their entry actions write out the transition. -/
theorem ticksToATimeout : Obligations.TicksToATimeout := by
  intro s hinv hi ha hnil hc hm
  refine ⟨fun hs => ?_, fun hs => ?_⟩
  · have h := ticking_of_entry (.booting hs) hinv hi ha hc hm
    refine ⟨fun k => runSteps_ticks h hnil, ?_⟩
    rintro _ rfl hr
    exact runSteps_timeout h hnil hr
  · have h := ticking_of_entry (.shuttingDown hs) hinv hi ha hc hm
    refine ⟨fun k => runSteps_ticks h hnil, ?_⟩
    rintro _ rfl hr
    exact runSteps_timeout h hnil hr

/-! ### With samples between the ticks -/

theorem edgeEvent_ne_tick (pins : Byte) : edgeEvent pins ≠ .op 0x2000#16 := by
  intro h
  rw [edgeEvent, Event.op.injEq] at h
  have hdecode := decode_encode_edge pins
  rw [h, decode_tick] at hdecode
  cases hdecode

/-- A shutdown that has ticked `k` times, with power and shutdown-request as they stood in `s`. -/
structure ShutdownTicking (s : State) (k : Nat) (t : State) : Prop where
  ticking : Ticking s.cfg.shutdownTickMs s.cfg.shutdownTimeout (.poweredOff 0) k t
  state : t.state = .shuttingDown
  cfg : t.cfg = s.cfg
  outPwr : t.outPwr = s.outPwr
  outShdn : t.outShdn = s.outShdn

theorem step_tick_word {s : State} {rest : List Event} (ha : s.agenda = .op 0x2000#16 :: rest) :
    step s = exec .tick (withAgenda rest s) :=
  step_presented ha decode_tick

namespace ShutdownTicking

variable {s t : State} {k : Nat}

theorem withAgenda (h : ShutdownTicking s k t) (l : List Event) : ShutdownTicking s k (withAgenda l t) :=
  ⟨⟨h.ticking.action.congr rfl rfl, h.ticking.legal, h.ticking.inited, h.ticking.isAwake, h.ticking.clock⟩, h.state, h.cfg,
    h.outPwr, h.outShdn⟩

/-- No sample shortens the shutdown (R112). -/
theorem edge (h : ShutdownTicking s k t) (pins : Byte) : ShutdownTicking s k (edgeDetect pins t) := by
  obtain ⟨-, hsleep, hentry⟩ := h.ticking.isAwake
  rw [edgeDetect_of_shuttingDown h.state]
  exact ⟨⟨h.ticking.action.congr rfl rfl, h.ticking.legal, h.ticking.inited, ⟨rfl, hsleep, hentry⟩, h.ticking.clock⟩,
    h.state, h.cfg, h.outPwr, h.outShdn⟩

theorem tick (h : ShutdownTicking s k t) :
    ShutdownTicking s (k + 1) (toggleAndCount s.cfg.shutdownTickMs t) :=
  ⟨h.ticking.next, h.state, h.cfg, h.outPwr, h.outShdn⟩

/-- The ticks among the turns are counted, and the samples change nothing of the shutdown. -/
theorem run {es rest : List Event} (hes : ∀ e ∈ es, e = .op 0x2000#16 ∨ ∃ pins, e = edgeEvent pins)
    (h : ShutdownTicking s k t) (ha : t.agenda = es ++ rest)
    (hk : k + es.count (.op 0x2000#16) < ticksTo s.cfg.shutdownTimeout s.cfg.shutdownTickMs) :
    ∃ u, runSteps es.length t = .next u ∧ ShutdownTicking s (k + es.count (.op 0x2000#16)) u ∧ u.agenda = rest := by
  induction es generalizing k t with
  | nil => exact ⟨t, runSteps_zero t, h, ha⟩
  | cons e es ih =>
    obtain ⟨he, hrest⟩ := List.forall_mem_cons.mp hes
    have htaken := h.withAgenda (es ++ rest)
    obtain rfl | ⟨pins, rfl⟩ := he
    · rw [List.count_cons_self, ← Nat.add_assoc, Nat.add_right_comm] at hk ⊢
      have hstep := (step_tick_word ha).trans (htaken.ticking.exec_tick_below (by omega))
      rw [List.length_cons, runSteps_succ_next hstep]
      exact ih hrest htaken.tick rfl hk
    · rw [List.count_cons_of_ne (edgeEvent_ne_tick pins)] at hk ⊢
      rw [List.length_cons, runSteps_succ_next (step_edge h.ticking.inited ha)]
      exact ih hrest (htaken.edge pins) (edgeDetect_agenda _ _) hk

end ShutdownTicking

/-- Settles O30: the run over samples and ticks (`ShutdownTicking.run`), then the tick that times out. -/
theorem shutdownEndsWhateverTheLinesDo : Obligations.ShutdownEndsWhateverTheLinesDo := by
  rintro s es _ hinv hi ha hs hc hm hr hes hagenda rfl hcount
  have hstart : ShutdownTicking s 0 s := ⟨ticking_of_entry (.shuttingDown hs) hinv hi ha hc hm, hs, rfl, rfl, rfl⟩
  obtain ⟨u, hrun, hu, huagenda⟩ := hstart.run hes hagenda (by rwa [Nat.zero_add])
  rw [Nat.zero_add] at hu
  refine ⟨⟨u, hrun, hu.state, hu.outPwr, hu.outShdn⟩, fun hlast => ?_⟩
  have hur : u.cfg.entryRace = false := by rw [hu.cfg]; exact hr
  have hstep := (step_tick_word huagenda).trans ((hu.withAgenda []).ticking.exec_tick_last hlast)
  rw [timeoutTransition_of_whole (s := toggleAndCount _ (withAgenda [] u)) hur] at hstep
  have hend := (runSteps_add es.length 1 s u hrun).trans (runSteps_succ_next hstep)
  exact ⟨_, hend, transition_state _ _, rfl, rfl⟩

/-! ### The timeout transition split -/

/-- The first half of a timeout transition (R120). -/
def entering (nxt : EntryPos) (s : State) : State := { s with state := nxt.target, entryPending := some nxt }

/-- The same device without the entry-action race. -/
def withoutEntryRace (s : State) : State := { s with cfg := { s.cfg with entryRace := false } }

theorem inv_withoutEntryRace {s : State} (h : Inv s) (ha : awake s) : Inv (withoutEntryRace s) :=
  .of_awake (s := withoutEntryRace s) h.legal h.subsec_le h.sec_lt ha

/-- A TICK that changes STATE without the race is the first half of the split transition under it. -/
theorem exec_tick_split_of_whole {s t : State} {p limit : Nat} {nxt : EntryPos} (h : TicksTimed p limit nxt s)
    (hwhole : TicksTimed p limit nxt (withoutEntryRace s)) (hi : s.inited = true) (hr : s.cfg.entryRace = true)
    (hexec : exec .tick (withoutEntryRace s) = .next t) (hne : t.state ≠ s.state) :
    t = transition nxt.target (toggleAndCount p (withoutEntryRace s)) ∧
      exec .tick s = .next (entering nxt (toggleAndCount p s)) := by
  have hroom : (toggleAndCount p s).sec < 2 ^ s.cfg.secW := by
    refine not_le.mp fun hfull => ?_
    cases hexec.symm.trans (hwhole.exec_of_overflow hi hfull)
  have hlimit : limit ≤ (toggleAndCount p s).sec := by
    refine not_lt.mp fun hbelow => ?_
    cases hexec.symm.trans (hwhole.exec_of_below hi hroom hbelow)
    exact hne rfl
  refine ⟨?_, h.exec_of_timeout_split hi hroom hlimit hr⟩
  cases hexec.symm.trans (hwhole.exec_of_timeout_whole hi hroom hlimit rfl)
  rfl

/-- With nothing presented the main line's step is the pending ENTRY_STEP. -/
theorem runSteps_entryStep {s : State} {p : EntryPos} (k : Nat) (hnil : s.agenda = []) (hsleep : s.sleepPending = false)
    (hp : s.entryPending = some p) : runSteps (k + 1) s = runSteps k (entryStep p s) := by
  refine runSteps_succ_next ?_
  rw [step_nil hnil, mainLineTurn_of_entryPending hsleep hp]

section
variable {s : State} (hnil : s.agenda = []) (hsleep : s.sleepPending = false)
include hnil hsleep

theorem runSteps_entering_idle : runSteps 1 (entering .idle s) = .next { transition .idle s with entryPending := none } :=
  runSteps_entryStep (s := entering .idle s) 0 hnil hsleep rfl

theorem runSteps_entering_poweredOff :
    runSteps 3 (entering (.poweredOff 0) s) = .next { transition .poweredOff s with entryPending := none } :=
  calc runSteps 3 (entering (.poweredOff 0) s)
    _ = runSteps 2 (entryStep (.poweredOff 0) (entering (.poweredOff 0) s)) := runSteps_entryStep 2 hnil hsleep rfl
    _ = runSteps 1 (entryStep (.poweredOff 1) (entryStep (.poweredOff 0) (entering (.poweredOff 0) s))) :=
      runSteps_entryStep 1 hnil hsleep rfl
    _ = .next { transition .poweredOff s with entryPending := none } :=
      runSteps_entryStep (s := entryStep (.poweredOff 1) (entryStep (.poweredOff 0) (entering (.poweredOff 0) s))) 0 hnil
        hsleep rfl

end

/-- Settles O42: the TICK leaves the entry action to the main line (`exec_tick_split_of_whole`), whose ENTRY_STEPs write what
the whole transition writes. -/
theorem splitTimeoutEndsAsTheWholeOne : Obligations.SplitTimeoutEndsAsTheWholeOne := by
  intro s t hinv hi ha hnil hr hexec
  have hinv' := inv_withoutEntryRace hinv ha
  have hsleep : s.sleepPending = false := ha.right.left
  have hentry : s.entryPending = none := ha.right.right
  have hstep : step s = exec .tick s := by rw [step_nil hnil, mainLineTurn_of_none_pending hsleep hentry]
  refine ⟨fun hs ht => ?_, fun hs ht => ?_⟩
  · obtain ⟨rfl, htick⟩ := exec_tick_split_of_whole (ticksTimed_booting hinv ha hs) (ticksTimed_booting hinv' ha hs) hi hr
      hexec (by simp [hs, ht])
    rw [runSteps_succ_next (hstep.trans htick), runSteps_entering_idle (s := toggleAndCount _ s) hnil hsleep, ← hentry]
    rfl
  · obtain ⟨rfl, htick⟩ := exec_tick_split_of_whole (ticksTimed_shuttingDown hinv ha hs)
      (ticksTimed_shuttingDown hinv' ha hs) hi hr hexec (by simp [hs, ht])
    rw [runSteps_succ_next (hstep.trans htick), runSteps_entering_poweredOff (s := toggleAndCount _ s) hnil hsleep,
      ← hentry]
    rfl

end Sys2Proof.Machine
end
